-- ==== Sys2Proof/Word.lean ====
section
/-! DEFINITION. The word type of the block: the wire byte (00_scope.md R7 `BYTE_W = 8`, R10). -/

namespace Sys2Proof

/-- A wire byte, and the content of every byte register: 8 bits, bit 0 least significant (R7, R10). -/
abbrev Byte := BitVec 8

end Sys2Proof
end

