-- ==== Sys2Proof/Config.lean ====
section
/-! DEFINITION. The fixed parameters of 00_scope.md R7, under the spec's own names, and the one family of free
values the model needs. The block has no parameter an implementation may choose (R9). -/

namespace Sys2Proof.Config

/-- `PREAMBLE`: first byte of every frame (R7). -/
abbrev preamble : Byte := 0x01#8
/-- `TERMINATOR`: last byte of every frame (R7). -/
abbrev terminator : Byte := 0x03#8
/-- `DELIMITER`: the byte between payload and status, inbound only (R7). -/
abbrev delimiter : Byte := 0x04#8
/-- `POSTAMBLE`: the byte before the checksum (R7). -/
abbrev postamble : Byte := 0x05#8
/-- `NAK`: negative acknowledgement, outside a frame (R7). -/
abbrev nak : Byte := 0x15#8
/-- `SYN`: busy/sync signal, outside a frame (R7). -/
abbrev syn : Byte := 0x16#8
/-- `LEN_BIAS_OUT`: outbound `length = 0x24 + N` (R7, R71). -/
abbrev lenBiasOut : Nat := 0x24
/-- `LEN_BIAS_IN`: inbound `N = L − 0x20 − 11` (R7, R73). -/
abbrev lenBiasIn : Nat := 0x2B
/-- `SEQ_MIN`: lowest sequence value (R7). -/
abbrev seqMin : Byte := 0x22#8
/-- `SEQ_MAX`: highest sequence value (R7). -/
abbrev seqMax : Byte := 0x7F#8
/-- `SEQ_PERIOD`: the number of distinct sequence values (R7, R134). -/
abbrev seqPeriod : Nat := 94
/-- `N_OUT_MAX`: largest outbound payload (R7, R71). -/
abbrev nOutMax : Nat := 219
/-- `N_IN_MAX`: largest inbound payload, `0xFF − 43` (R7, R73). -/
abbrev nInMax : Nat := 212
/-- `STATUS_LEN`: status block bytes (R7). -/
abbrev statusLen : Nat := 6
/-- `CKSUM_LEN`: checksum bytes (R7). -/
abbrev cksumLen : Nat := 4
/-- `CKSUM_DIGIT_BIAS`: added to each checksum digit (R7, R111). -/
abbrev cksumDigitBias : Nat := 0x30
/-- `BCC_W`: the width the checksum sum needs (R7, R113). -/
abbrev bccW : Nat := 16
/-- `MAX_RETRIES`: a parameter of the host's CommandQueue, named for completeness; the block does not use it (R8). -/
abbrev maxRetries : Nat := 12

/-- FREE VALUE. What the registers that R280 calls unspecified hold after a RESET transaction (`LEN`, `NLEN`, `SEQ`,
`CMD`, `DATA`, `STATUS`, `CKSUM`: R35, U1 "any value"). It has no body: no proof can see what it is. A RESET applies it
to the model's own counter `State.free` and advances the counter, so that no two resets are made to agree
(notes/assumptions/2.md). -/
opaque freeByte : Nat → Byte

end Sys2Proof.Config
end

