-- ==== Sys2Proof/Syntax.lean ====
section
/-! DEFINITION. What the host drives into the block (the input ports of 30_encoding.md R93), the decoder states that
the `rx_byte` rows of the opcode table are told apart by (10_state.md R24), and the ONE instruction type: one
constructor per row of spec/opcode_table.json. -/

namespace Sys2Proof

/-- The decoder state register `ST`, 4 bits (10_state.md R24). Eleven named states, and the five reserved codes 0xA to
0xE as `reserved k` (code `0xA + k`), so that every value of the 4-bit register is a value here (R87, D43). -/
inductive DecState where
  /-- 0x0: between frames. -/
  | idle
  /-- 0x1: the next byte is the length byte `L`. -/
  | readingLength
  /-- 0x2: the next byte is the sequence byte. -/
  | readingSequence
  /-- 0x3: the next byte is the command byte. -/
  | readingCommand
  /-- 0x4: the next byte is a payload byte. -/
  | readingData
  /-- 0x5: the next byte must be the delimiter 0x04. -/
  | expectDelimiter
  /-- 0x6: the next byte is a status byte. -/
  | readingStatus
  /-- 0x7: the next byte must be the postamble 0x05. -/
  | expectPostamble
  /-- 0x8: the next byte is a checksum byte. -/
  | readingChecksum
  /-- 0x9: the next byte must be the terminator 0x03. -/
  | expectTerminator
  /-- 0xF: a FramingFault was raised; every byte is dropped (D7). -/
  | faulted
  /-- 0xA to 0xE: reserved, never written by any transaction (R87). -/
  | reserved (k : Fin 5)
  deriving DecidableEq, Repr

/-- The block's input ports in one step (R93): the whole of what the host can say to it. -/
structure Ports where
  /-- `rst`: the reset transaction; it wins over `op` (R249). -/
  rst : Bool
  /-- `op[2:0]`: the transaction select (R91). -/
  op : BitVec 3
  /-- `rx_byte`: the argument `b` of RX_BYTE. -/
  rxByte : Byte
  /-- `cmd`: the argument `cmd` of BUILD and CKSUM_COMPUTE. -/
  cmd : Byte
  /-- `len_in`: the argument `lb` of CKSUM_COMPUTE. -/
  lenIn : Byte
  /-- `seq_in`: the argument `sq` of CKSUM_COMPUTE. -/
  seqIn : Byte
  /-- `data_in[0..218]`: the payload of BUILD and CKSUM_COMPUTE. -/
  dataIn : Vector Byte 219
  /-- `n_in`: the length of that payload. -/
  nIn : Byte
  /-- `ck_in[0..3]`: the arguments of CKSUM_DECODE. -/
  ckIn : Vector Byte 4
  /-- `st_in[0..5]`: the arguments of STATUS_DECODE. -/
  stIn : Vector Byte 6
  deriving DecidableEq, Repr

/-- The ports of a step in which the host asks for nothing: `rst = 0`, `op = 0b000`, and every operand port 0. -/
def Ports.null : Ports where
  rst := false
  op := 0
  rxByte := 0
  cmd := 0
  lenIn := 0
  seqIn := 0
  dataIn := Vector.replicate 219 0
  nIn := 0
  ckIn := Vector.replicate 4 0
  stIn := Vector.replicate 6 0

/-- The instructions: one constructor per row of spec/opcode_table.json. The first nine are the rows of the formats
`reset` and `host_op`: the transactions of R90 and the two remaining `op` codes of R91. The others are the rows of the
format `rx_byte`: the cases (state, byte class) of RX_BYTE, one per rule R151 to R169. A row's name says the state; a
row whose byte is not fixed carries the byte `b`. -/
inductive Instr where
  /-- RESET, on `rst` (R280). -/
  | reset
  /-- `op = 0b000`: no transaction in this step (R88, D41). -/
  | nop
  /-- `op = 0b001`: RX_BYTE(b) (R150). -/
  | rxByte (b : Byte)
  /-- `op = 0b010`: BUILD(cmd, data) (R130). -/
  | build (cmd : Byte) (data : List Byte)
  /-- `op = 0b011`: CKSUM_COMPUTE(lb, sq, cmd, data) (R110). -/
  | cksumCompute (lb sq cmd : Byte) (data : List Byte)
  /-- `op = 0b100`: CKSUM_DECODE(c0, c1, c2, c3) (R116). -/
  | cksumDecode (c0 c1 c2 c3 : Byte)
  /-- `op = 0b101`: STATUS_DECODE(s0, …, s5) (R200). -/
  | statusDecode (s0 s1 s2 s3 s4 s5 : Byte)
  /-- `op = 0b110`: DEC_CLEAR (R281). -/
  | decClear
  /-- `op = 0b111`: reserved, answered with OpErr(OE_RESERVED) (R88). -/
  | reservedOp
  /-- RX_BYTE in IDLE, `b = 0x15` (R151). -/
  | rxIdleNak
  /-- RX_BYTE in IDLE, `b = 0x16` (R152). -/
  | rxIdleSyn
  /-- RX_BYTE in IDLE, `b = 0x01` (R153). -/
  | rxIdlePreamble
  /-- RX_BYTE in IDLE, any other `b` (R154). -/
  | rxIdleOther (b : Byte)
  /-- RX_BYTE in READING_LENGTH, `b ≥ 0x2B` (R155). -/
  | rxLenOk (b : Byte)
  /-- RX_BYTE in READING_LENGTH, `b < 0x2B` (R156). -/
  | rxLenNeg (b : Byte)
  /-- RX_BYTE in READING_SEQUENCE (R157). -/
  | rxSeq (b : Byte)
  /-- RX_BYTE in READING_COMMAND (R158). -/
  | rxCmd (b : Byte)
  /-- RX_BYTE in READING_DATA (R159). -/
  | rxData (b : Byte)
  /-- RX_BYTE in EXPECT_DELIMITER, `b = 0x04` (R160). -/
  | rxDelimOk
  /-- RX_BYTE in EXPECT_DELIMITER, `b ≠ 0x04` (R161). -/
  | rxDelimBad (b : Byte)
  /-- RX_BYTE in READING_STATUS (R162). -/
  | rxStatus (b : Byte)
  /-- RX_BYTE in EXPECT_POSTAMBLE, `b = 0x05` (R163). -/
  | rxPostOk
  /-- RX_BYTE in EXPECT_POSTAMBLE, `b ≠ 0x05` (R164). -/
  | rxPostBad (b : Byte)
  /-- RX_BYTE in READING_CHECKSUM (R165). -/
  | rxCksum (b : Byte)
  /-- RX_BYTE in EXPECT_TERMINATOR, `b = 0x03` (R166). -/
  | rxTermOk
  /-- RX_BYTE in EXPECT_TERMINATOR, `b ≠ 0x03` (R167). -/
  | rxTermBad (b : Byte)
  /-- RX_BYTE in FAULTED (R168). -/
  | rxFaulted (b : Byte)
  /-- RX_BYTE with a reserved `ST` code (R169). -/
  | rxReservedState (b : Byte)
  deriving DecidableEq, Repr

end Sys2Proof
end

