-- ==== Sys2Proof/Machine/State.lean ====
section
/-! DEFINITION. The state of the block as plain data: every register of 10_state.md R35; the output ports of
30_encoding.md R93 as the latest step left them; and, the model's own, the transactions the host still offers and the
counter behind the free values. Then the ways a step can stop, and the state after power-on. -/

namespace Sys2Proof.Machine

open Sys2Proof

/-- `FAULT_KIND`, 3 bits (60_exceptions.md R240). The codes 6 and 7 are reserved and never written (U4). -/
inductive FaultKind where
  /-- 0 `FK_NONE`: no fault. -/
  | none
  /-- 1 `FK_MALFORMED`: an unexpected byte while idle. -/
  | malformed
  /-- 2 `FK_NEG_LENGTH`: a negative computed payload length. -/
  | negLength
  /-- 3 `FK_DELIMITER`: invalid delimiter. -/
  | delimiter
  /-- 4 `FK_POSTAMBLE`: invalid postamble. -/
  | postamble
  /-- 5 `FK_TERMINATOR`: invalid terminator. -/
  | terminator
  deriving DecidableEq, Repr

/-- The error responses of 60_exceptions.md R247. They are answers of a transaction, not faults (R244). -/
inductive ErrCode where
  /-- 1 `BE_TOO_LONG`: BUILD with a payload longer than 219 bytes. -/
  | beTooLong
  /-- 2 `CE_TOO_LONG`: CKSUM_COMPUTE with a payload longer than 219 bytes. -/
  | ceTooLong
  /-- 3 `CE_BAD_DIGIT`: CKSUM_DECODE of a byte outside 0x30..0x3F. -/
  | ceBadDigit
  /-- 4 `OE_RESERVED`: the reserved `op` 0b111. -/
  | oeReserved
  deriving DecidableEq, Repr

/-- The fault codes a status block can report (43_status.md R203 to R210), in the order of R222. -/
inductive DeviceFault where
  | invalidCommand | syntaxError | notAllowedInMode | arithOverflow | outOfPaper
  | fmWriteError | fmFull | fmReadOnly
  deriving DecidableEq, Repr

/-- The advisory conditions a status block can report (43_status.md R212 to R221), in the order of R222. -/
inductive Condition where
  | displayDisconnected | datetimeNotSet | fmLowBlocks | ibfm | pib
  | nonfiscalReceiptOpen | fiscalReceiptOpen | taxGroupsSet | fiscalMode | fmFormatted
  deriving DecidableEq, Repr

/-- The StatusDecoder's result (43_status.md R200). The two sets are lists without repeats, in the order of R222. -/
structure StatusResult where
  isError : Bool
  gFatal : Bool
  gFm : Bool
  faultSet : List DeviceFault
  condSet : List Condition
  deriving DecidableEq, Repr

/-- The record of a complete inbound frame (42_decoder.md R170). -/
structure FrameRec where
  length : Byte
  sequence : Byte
  command : Byte
  n : Byte
  data : List Byte
  status : Vector Byte 6
  checksum : Vector Byte 4
  statuses : StatusResult
  deriving DecidableEq, Repr

/-- What a step puts on the output ports: at most one event or result, each the output of the transaction that causes
it and of that one alone (60_exceptions.md R246; 30_encoding.md R93, D39). -/
inductive Output where
  /-- No event and no result. -/
  | quiet
  /-- `EvNak`. -/
  | nak
  /-- `EvFrame(FrameRec)`. -/
  | frame (r : FrameRec)
  /-- `EvFault(kind)`. -/
  | fault (k : FaultKind)
  /-- `TxFrame(bytes)`, the answer of BUILD. -/
  | txFrame (bytes : List Byte)
  /-- `ck_out[0..3]`, the answer of CKSUM_COMPUTE. -/
  | cksum (c : Vector Byte 4)
  /-- `bcc_out`, the answer of CKSUM_DECODE. -/
  | bcc (v : BitVec 16)
  /-- The answer of STATUS_DECODE; on `sd_out` it stands packed (R222). -/
  | status (r : StatusResult)
  /-- `BuildErr`, `CkErr` or `OpErr`. -/
  | err (e : ErrCode)
  deriving DecidableEq, Repr

structure State where
  /-- `SEQCTR`: the sequence counter (R22). -/
  seqctr : Byte
  /-- `ST`: the decoder state register, 4 bits (R24). -/
  st : DecState
  /-- `LEN`: the length byte of the frame in progress (R25). -/
  len : Byte
  /-- `NLEN`: the payload length of the frame in progress (R26). -/
  nlen : Byte
  /-- `SEQ`: the inbound sequence byte (R27). -/
  seq : Byte
  /-- `CMD`: the inbound command byte (R27). -/
  cmd : Byte
  /-- `DATA[0..211]`: the payload buffer (R28). -/
  data : Vector Byte 212
  /-- `DCNT`: its fill count (R28). -/
  dcnt : Byte
  /-- `STATUS[0..5]`: the status buffer (R29). -/
  status : Vector Byte 6
  /-- `SCNT`: its fill count, 3 bits (R29). -/
  scnt : BitVec 3
  /-- `CKSUM[0..3]`: the checksum buffer (R29). -/
  cksum : Vector Byte 4
  /-- `CCNT`: its fill count, 3 bits (R29). -/
  ccnt : BitVec 3
  /-- `FAULT_KIND`: the fault latch (R30). -/
  faultKind : FaultKind
  /-- The output ports as the latest step left them (R93, R246). An event is not stored: the next step replaces it. -/
  out : Output
  /-- The MODEL'S own: the transactions the host still offers, the next one first (notes/assumptions/4.md). -/
  inputs : List Ports
  /-- The MODEL'S own: the counter that free values are drawn at (notes/assumptions/2.md and 3.md). -/
  free : Nat
  deriving DecidableEq, Repr

/-- The ways a step can stop with a fault. A FramingFault of the spec is NOT one of them: it is a next state (R241). -/
inductive Fault where
  /-- Raised by RX.DATA, RX.STATUS, RX.CKSUM and RX.TERM.OK when a fill count or `NLEN` names a buffer entry that does
  not exist. No state that a run reaches raises it (R159, R162 and R165: "always hold"). Safe: the machine stops where
  the spec gives no effect (notes/assumptions/7.md). -/
  | bufferIndexOutOfRange
  deriving DecidableEq, Repr

/-- The ways a step can be refused. The block's own error responses are NOT among them: they are next states (R244). -/
inductive Refusal where
  /-- Raised by no arm of this model: every instruction has its meaning. Safe. -/
  | notModelled (mnemonic : String)
  /-- Raised by RX_BYTE and its rows when `ST` holds a reserved code, 0xA to 0xE (R169, R87): "refuses to step from one".
  Safe: no transaction writes such a code (notes/assumptions/6.md). -/
  | reservedDecoderState
  deriving DecidableEq, Repr

/-- Power-on: "the block is in the state RESET leaves" (70_reset_and_hazards.md R282). The registers R280 lists hold
the values it gives. The registers it calls unspecified hold 0 here, a DESIGN CHOICE (notes/assumptions/1.md); no
transaction is offered and no output stands yet. -/
def State.reset : State where
  seqctr := 0x22
  st := .idle
  len := 0
  nlen := 0
  seq := 0
  cmd := 0
  data := Vector.replicate 212 0
  dcnt := 0
  status := Vector.replicate 6 0
  scnt := 0
  cksum := Vector.replicate 4 0
  ccnt := 0
  faultKind := .none
  out := .quiet
  inputs := []
  free := 0

end Sys2Proof.Machine
end

