-- ==== Sys2Proof/Machine/Operands.lean ====
section
/-! DEFINITION. The operand arithmetic of the ChecksumCodec (40_checksum.md) and of the FrameEncoder (41_encoder.md),
in exact integer arithmetic as 00_scope.md R10 says. -/

namespace Sys2Proof.Machine

open Sys2Proof

/-- Whether BUILD and CKSUM_COMPUTE accept a payload: at most 219 bytes (R133, R110). -/
def payloadOk (data : List Byte) : Bool := decide (data.length ≤ Config.nOutMax)

/-- The integer sum of a byte sequence. -/
def byteSum : List Byte → Nat
  | [] => 0
  | b :: bs => b.toNat + byteSum bs

/-- `BccSum(lb, sq, cmd, data)` (R112): the exact sum, with the fixed postamble value 0x05 and no modulus. -/
def bccSum (lb sq cmd : Byte) (data : List Byte) : Nat :=
  lb.toNat + sq.toNat + cmd.toNat + byteSum data + Config.postamble.toNat

/-- One checksum byte: `0x30 + d` (R111). -/
def digitByte (d : Nat) : Byte := BitVec.ofNat 8 (Config.cksumDigitBias + d)

/-- `Enc4(v)` (R111): four digits by successive division by 4096, 256, 16 and 1, most significant first (R53). Its
domain is `v ≤ 65535`; no transaction forms a larger value (R113), and what this function gives for one is the model's
choice (notes/assumptions/16.md). -/
def enc4 (v : Nat) : Vector Byte 4 :=
  let d0 := v / 4096
  let r0 := v % 4096
  let d1 := r0 / 256
  let r1 := r0 % 256
  let d2 := r1 / 16
  let r2 := r1 % 16
  let d3 := r2 / 1
  #v[digitByte d0, digitByte d1, digitByte d2, digitByte d3]

/-- Whether a byte is a checksum digit: 0x30 to 0x3F (R116). -/
def isDigit (c : Byte) : Bool := decide (0x30 ≤ c.toNat) && decide (c.toNat ≤ 0x3F)

/-- The value of a digit byte (R116). -/
def digitVal (c : Byte) : Nat := c.toNat - Config.cksumDigitBias

/-- The value CKSUM_DECODE reads from four digit bytes, most significant first (R116). -/
def dec4 (c0 c1 c2 c3 : Byte) : Nat :=
  digitVal c0 * 4096 + digitVal c1 * 256 + digitVal c2 * 16 + digitVal c3

/-- `Frame(sq, cmd, data)` (R131), laid out as in R70. Its domain is `len(data) ≤ 219`, to which BUILD keeps it; what this
function gives for a longer payload is the model's choice (notes/assumptions/16.md). -/
def outFrame (sq cmd : Byte) (data : List Byte) : List Byte :=
  let l : Byte := BitVec.ofNat 8 (Config.lenBiasOut + data.length)
  [Config.preamble, l, sq, cmd] ++ data ++ [Config.postamble] ++ (enc4 (bccSum l sq cmd data)).toList
    ++ [Config.terminator]

/-- `NextSeq(v)` (R132): 0x22 when `v + 1 > 0x7F`, else `v + 1`. -/
def nextSeq (v : Byte) : Byte := if Config.seqMax.toNat < v.toNat + 1 then Config.seqMin else v + 1

end Sys2Proof.Machine
end

