-- ==== Sys2Proof/WellFormed.lean ====
section
/-! DEFINITION. Which terms of `Instr` stand for something the ports can carry: the payload fits the ports, and the
byte of an `rx_byte` row is in the row's byte class (the column "byte_condition" of spec/opcode_table.json). -/

namespace Sys2Proof

/-- A payload that `n_in` and `data_in[0..218]` can carry (R93): `n_in` is 8 bits wide, and there is no port for an
entry past index 218, so such an entry of an over-long payload reads as 0 (notes/assumptions/9.md). -/
def payloadFits (data : List Byte) : Bool :=
  decide (data.length ≤ 255) && (data.drop Config.nOutMax).all (· == 0)

/-- The checks, one per constructor that has any. -/
def Instr.wellFormed : Instr → Bool
  | .reset => true
  | .nop => true
  | .rxByte _ => true
  | .build _ data => payloadFits data
  | .cksumCompute _ _ _ data => payloadFits data
  | .cksumDecode _ _ _ _ => true
  | .statusDecode _ _ _ _ _ _ => true
  | .decClear => true
  | .reservedOp => true
  | .rxIdleNak => true
  | .rxIdleSyn => true
  | .rxIdlePreamble => true
  | .rxIdleOther b => b != Config.preamble && b != Config.nak && b != Config.syn
  | .rxLenOk b => decide (Config.lenBiasIn ≤ b.toNat)
  | .rxLenNeg b => decide (b.toNat < Config.lenBiasIn)
  | .rxSeq _ => true
  | .rxCmd _ => true
  | .rxData _ => true
  | .rxDelimOk => true
  | .rxDelimBad b => b != Config.delimiter
  | .rxStatus _ => true
  | .rxPostOk => true
  | .rxPostBad b => b != Config.postamble
  | .rxCksum _ => true
  | .rxTermOk => true
  | .rxTermBad b => b != Config.terminator
  | .rxFaulted _ => true
  | .rxReservedState _ => true

end Sys2Proof
end

