-- ==== Sys2Proof/Decode.lean ====
section
/-! DEFINITION. The decoder, from the input ports to the instruction, total on any port values; the selection of the
`rx_byte` row from the decoder state and the byte; and the encoder, from an instruction to the ports that carry it.

The block has no instruction words (30_encoding.md): what a step runs is selected by the input ports. Every value of
the ports selects exactly one instruction (`op = 0b111` is the row RESERVED_OP, an instruction with an answer of its
own), so there is nothing to reject at the ports. What IS rejected is a word of the opcode table's numbering that no
format of the table has (`tableWordPorts`). -/

namespace Sys2Proof

/-- `op[2:0]` of each transaction (R91). -/
def opRxByte : BitVec 3 := 0b001
def opBuild : BitVec 3 := 0b010
def opCksumCompute : BitVec 3 := 0b011
def opCksumDecode : BitVec 3 := 0b100
def opStatusDecode : BitVec 3 := 0b101
def opDecClear : BitVec 3 := 0b110
def opReserved : BitVec 3 := 0b111

/-- The payload on `n_in` and `data_in` (R93): `data_in[0..n_in−1]`. For `n_in > 219` the entries past index 218 have
no port and stand as 0; no meaning reads them (notes/assumptions/9.md). -/
def payloadOf (n : Byte) (d : Vector Byte 219) : List Byte :=
  (d.toList ++ List.replicate 36 0).take n.toNat

/-- `data_in` for a payload: its entries, and 0 past its end; an entry past index 218 has no port
(notes/assumptions/17.md). -/
def payloadPort (data : List Byte) : Vector Byte 219 :=
  Vector.ofFn fun i => data.getD i.val 0

/-- `n_in` for a payload: its length. The 8-bit port cannot carry a length above 255, and the spec gives no ports for such
a payload. DESIGN CHOICE: it drives 255, the longest length the port can say, so that the transaction is refused as
over-long, as R110 and R133 say of every payload of more than 219 bytes (notes/assumptions/17.md). -/
def payloadLen (data : List Byte) : Byte := BitVec.ofNat 8 (min data.length 255)

/-- The transaction the ports select: `rst` first (R249: "reset wins, and the op is ignored"), then `op` (R91). The
operands are those ports of R93 that the transaction's rule names. -/
def decode (p : Ports) : Instr :=
  if p.rst then .reset
  else match p.op.toNat with
    | 0 => .nop
    | 1 => .rxByte p.rxByte
    | 2 => .build p.cmd (payloadOf p.nIn p.dataIn)
    | 3 => .cksumCompute p.lenIn p.seqIn p.cmd (payloadOf p.nIn p.dataIn)
    | 4 => .cksumDecode p.ckIn[0] p.ckIn[1] p.ckIn[2] p.ckIn[3]
    | 5 => .statusDecode p.stIn[0] p.stIn[1] p.stIn[2] p.stIn[3] p.stIn[4] p.stIn[5]
    | 6 => .decClear
    | _ => .reservedOp  -- 0b111, the one value left of three bits

/-- The `rx_byte` row that the state `ST` and the byte `b` select (R150; the columns "state", "byte_condition" and
"priority" of the opcode table). -/
def rxRow (st : DecState) (b : Byte) : Instr :=
  match st with
  | .idle =>
    if b = Config.nak then .rxIdleNak
    else if b = Config.syn then .rxIdleSyn
    else if b = Config.preamble then .rxIdlePreamble
    else .rxIdleOther b
  | .readingLength => if Config.lenBiasIn ≤ b.toNat then .rxLenOk b else .rxLenNeg b
  | .readingSequence => .rxSeq b
  | .readingCommand => .rxCmd b
  | .readingData => .rxData b
  | .expectDelimiter => if b = Config.delimiter then .rxDelimOk else .rxDelimBad b
  | .readingStatus => .rxStatus b
  | .expectPostamble => if b = Config.postamble then .rxPostOk else .rxPostBad b
  | .readingChecksum => .rxCksum b
  | .expectTerminator => if b = Config.terminator then .rxTermOk else .rxTermBad b
  | .faulted => .rxFaulted b
  | .reserved _ => .rxReservedState b

/-- The full decoding: the ports, and for RX_BYTE also the state `ST`, which together select one row of the table. -/
def decodeIn (st : DecState) (p : Ports) : Instr :=
  match decode p with
  | .rxByte b => rxRow st b
  | i => i

/-- The byte on `rx_byte` of an RX_BYTE transaction or of one of its rows; `none` for the other transactions. -/
def Instr.rxOperand : Instr → Option Byte
  | .rxByte b | .rxIdleOther b | .rxLenOk b | .rxLenNeg b | .rxSeq b | .rxCmd b | .rxData b | .rxDelimBad b
  | .rxStatus b | .rxPostBad b | .rxCksum b | .rxTermBad b | .rxFaulted b | .rxReservedState b => some b
  | .rxIdleNak => some Config.nak
  | .rxIdleSyn => some Config.syn
  | .rxIdlePreamble => some Config.preamble
  | .rxDelimOk => some Config.delimiter
  | .rxPostOk => some Config.postamble
  | .rxTermOk => some Config.terminator
  | .reset | .nop | .build _ _ | .cksumCompute _ _ _ _ | .cksumDecode _ _ _ _ | .statusDecode _ _ _ _ _ _
  | .decClear | .reservedOp => none

/-- The states `ST` in which an `rx_byte` row is the one RX_BYTE selects, for a byte of its class (the column "state"
of the opcode table). A transaction of the other two formats is selected whatever `ST` is. -/
def Instr.rowState : Instr → DecState → Bool
  | .rxIdleNak, st | .rxIdleSyn, st | .rxIdlePreamble, st | .rxIdleOther _, st => st == .idle
  | .rxLenOk _, st | .rxLenNeg _, st => st == .readingLength
  | .rxSeq _, st => st == .readingSequence
  | .rxCmd _, st => st == .readingCommand
  | .rxData _, st => st == .readingData
  | .rxDelimOk, st | .rxDelimBad _, st => st == .expectDelimiter
  | .rxStatus _, st => st == .readingStatus
  | .rxPostOk, st | .rxPostBad _, st => st == .expectPostamble
  | .rxCksum _, st => st == .readingChecksum
  | .rxTermOk, st | .rxTermBad _, st => st == .expectTerminator
  | .rxFaulted _, st => st == .faulted
  | .rxReservedState _, st => (List.finRange 5).any fun k => st == .reserved k
  | .reset, _ | .nop, _ | .rxByte _, _ | .build _ _, _ | .cksumCompute _ _ _ _, _ | .cksumDecode _ _ _ _, _
  | .statusDecode _ _ _ _ _ _, _ | .decClear, _ | .reservedOp, _ => true

/-- Whether an instruction is one of the `rx_byte` rows (a case of RX_BYTE), and not a transaction of R90 or R91. -/
def Instr.isRow : Instr → Bool
  | .reset | .nop | .rxByte _ | .build _ _ | .cksumCompute _ _ _ _ | .cksumDecode _ _ _ _
  | .statusDecode _ _ _ _ _ _ | .decClear | .reservedOp => false
  | .rxIdleNak | .rxIdleSyn | .rxIdlePreamble | .rxIdleOther _ | .rxLenOk _ | .rxLenNeg _ | .rxSeq _ | .rxCmd _
  | .rxData _ | .rxDelimOk | .rxDelimBad _ | .rxStatus _ | .rxPostOk | .rxPostBad _ | .rxCksum _ | .rxTermOk
  | .rxTermBad _ | .rxFaulted _ | .rxReservedState _ => true

/-- The ports of an RX_BYTE that delivers `b`. -/
def rxPorts (b : Byte) : Ports := { Ports.null with op := opRxByte, rxByte := b }

/-- The encoder: the ports that carry an instruction, from R91 and R93. A row of RX_BYTE has the ports of RX_BYTE with
the row's byte. The spec does not say what the other ports carry: the ports an instruction does not use are 0 here, a
DESIGN CHOICE (notes/assumptions/17.md), as is what a payload of more than 255 bytes drives (`payloadLen`). -/
def encode : Instr → Ports
  | .reset => { Ports.null with rst := true }
  | .nop => Ports.null
  | .rxByte b => rxPorts b
  | .build cmd data =>
    { Ports.null with op := opBuild, cmd := cmd, dataIn := payloadPort data, nIn := payloadLen data }
  | .cksumCompute lb sq cmd data =>
    { Ports.null with op := opCksumCompute, lenIn := lb, seqIn := sq, cmd := cmd, dataIn := payloadPort data,
                      nIn := payloadLen data }
  | .cksumDecode c0 c1 c2 c3 => { Ports.null with op := opCksumDecode, ckIn := #v[c0, c1, c2, c3] }
  | .statusDecode s0 s1 s2 s3 s4 s5 => { Ports.null with op := opStatusDecode, stIn := #v[s0, s1, s2, s3, s4, s5] }
  | .decClear => { Ports.null with op := opDecClear }
  | .reservedOp => { Ports.null with op := opReserved }
  | .rxIdleNak => rxPorts Config.nak
  | .rxIdleSyn => rxPorts Config.syn
  | .rxIdlePreamble => rxPorts Config.preamble
  | .rxIdleOther b => rxPorts b
  | .rxLenOk b => rxPorts b
  | .rxLenNeg b => rxPorts b
  | .rxSeq b => rxPorts b
  | .rxCmd b => rxPorts b
  | .rxData b => rxPorts b
  | .rxDelimOk => rxPorts Config.delimiter
  | .rxDelimBad b => rxPorts b
  | .rxStatus b => rxPorts b
  | .rxPostOk => rxPorts Config.postamble
  | .rxPostBad b => rxPorts b
  | .rxCksum b => rxPorts b
  | .rxTermOk => rxPorts Config.terminator
  | .rxTermBad b => rxPorts b
  | .rxFaulted b => rxPorts b
  | .rxReservedState b => rxPorts b

/-- The ports that a word of the opcode table's numbering stands for. The table numbers three formats, each from bit 0
of a port of its own: `reset` (the 1-bit port `rst`), `host_op` (the 3-bit port `op`) and `rx_byte` (the 8-bit port
`rx_byte`, with `op = 0b001`). A word alone does not say its format. A word of 1 bit is read as `rst` and a word of 3
bits as `op`; in a word of 8 bits, a value below 8 is read as `op` and any other value as `rx_byte`
(notes/assumptions/10.md). No other word is in the table. -/
def tableWordPorts (nbits w : Nat) : Option Ports :=
  if nbits = 1 then (if w < 2 then some { Ports.null with rst := w == 1 } else none)
  else if nbits = 3 then (if w < 8 then some { Ports.null with op := BitVec.ofNat 3 w } else none)
  else if nbits = 8 then
    (if w < 8 then some { Ports.null with op := BitVec.ofNat 3 w }
     else if w < 256 then some (rxPorts (BitVec.ofNat 8 w))
     else none)
  else none

/-- Whether a word of the table's numbering is read as a word of the format `rx_byte`. -/
def tableWordIsRow (nbits w : Nat) : Bool := nbits == 8 && decide (8 ≤ w)

/-- The instruction the decoder reads from a word of the table: a transaction from a word of the formats `reset` and
`host_op`; from a word of the format `rx_byte`, the row it selects in IDLE, the state after reset. -/
def decodeTableWord (nbits w : Nat) : Option Instr :=
  (tableWordPorts nbits w).map fun p => if tableWordIsRow nbits w then decodeIn .idle p else decode p

end Sys2Proof
end

