-- ==== Sys2Proof/Machine/Ops.lean ====
section
/-! DEFINITION. The named operations every meaning is built from: the pseudocode primitives of 00_scope.md R12, the
buffer writes of the decoder, raising a FramingFault (60_exceptions.md R241) and leaving it (70_reset_and_hazards.md
R281), the free values of a RESET, and taking the next transaction the host offers. -/

namespace Sys2Proof.Machine

open Sys2Proof

/-- `emit E(args)`: the output of the current transaction (R12). `emit .quiet` says that there is none. -/
def State.emit (o : Output) (s : State) : State := { s with out := o }

/-- `ST <- S` (R12). -/
def State.goto (d : DecState) (s : State) : State := { s with st := d }

/-- `refuse E(reason)`: the transaction writes no state and emits only the error response (R12, R244). It is a NEXT
state: the machine goes on. -/
def State.answerErr (e : ErrCode) (s : State) : State := s.emit (.err e)

/-- TAKING AN EXCEPTION, for every rule that does: `raise FramingFault(kind)` (R241): "FAULT_KIND <- kind; ST <-
FAULTED; emit EvFault(kind)". The byte is not stored and no other register is written. -/
def State.raiseFramingFault (k : FaultKind) (s : State) : State :=
  { s with faultKind := k, st := .faulted, out := .fault k }

/-- Leaving it: the part that RESET and DEC_CLEAR share (R280, R281): "ST <- IDLE; FAULT_KIND <- FK_NONE; DCNT <- 0;
SCNT <- 0; CCNT <- 0". -/
def State.clearDecoder (s : State) : State :=
  { s with st := .idle, faultKind := .none, dcnt := 0, scnt := 0, ccnt := 0 }

/-- How many free values a RESET draws: `LEN`, `NLEN`, `SEQ`, `CMD`, 212 of `DATA`, 6 of `STATUS`, 4 of `CKSUM`. -/
def resetDraws : Nat := 226

/-- The registers that R280 lists as unspecified take a free value each (U1, "any value"), and the counter moves past
the values drawn (notes/assumptions/2.md). -/
def State.drawUnspecified (s : State) : State :=
  { s with
    len := Config.freeByte s.free
    nlen := Config.freeByte (s.free + 1)
    seq := Config.freeByte (s.free + 2)
    cmd := Config.freeByte (s.free + 3)
    data := Vector.ofFn fun i => Config.freeByte (s.free + 4 + i.val)
    status := Vector.ofFn fun i => Config.freeByte (s.free + 216 + i.val)
    cksum := Vector.ofFn fun i => Config.freeByte (s.free + 222 + i.val)
    free := s.free + resetDraws }

/-- The writes of R155: `LEN <- b; NLEN <- b − 0x20 − 11`, and the three counts to 0, which stands for allocating the
three buffers. Their old contents stay. -/
def State.startFrame (b : Byte) (s : State) : State :=
  { s with len := b, nlen := BitVec.ofNat 8 (b.toNat - Config.lenBiasIn), dcnt := 0, scnt := 0, ccnt := 0 }

/-- `DATA[DCNT] <- b; DCNT <- DCNT + 1` (R159), both with the old `DCNT`. -/
def State.pushData (b : Byte) (s : State) : State :=
  { s with data := s.data.setIfInBounds s.dcnt.toNat b, dcnt := s.dcnt + 1 }

/-- `STATUS[SCNT] <- b; SCNT <- SCNT + 1` (R162), both with the old `SCNT`. -/
def State.pushStatus (b : Byte) (s : State) : State :=
  { s with status := s.status.setIfInBounds s.scnt.toNat b, scnt := s.scnt + 1 }

/-- `CKSUM[CCNT] <- b; CCNT <- CCNT + 1` (R165), both with the old `CCNT`. -/
def State.pushCksum (b : Byte) (s : State) : State :=
  { s with cksum := s.cksum.setIfInBounds s.ccnt.toNat b, ccnt := s.ccnt + 1 }

/-- The ports of the next step, and the state once the host has offered them. When the host offers nothing, the step
has no transaction (R91 `op = 0b000`; notes/assumptions/4.md). -/
def State.fetch (s : State) : Ports × State :=
  match s.inputs with
  | [] => (Ports.null, s)
  | p :: rest => (p, { s with inputs := rest })

end Sys2Proof.Machine
end

