-- ==== Sys2Proof/Machine/Checksum.lean ====
section
/-! DEFINITION. The ChecksumCodec's transactions CKSUM_COMPUTE and CKSUM_DECODE (40_checksum.md R110, R116). Both are
pure: they read no register and write none (R118). -/

namespace Sys2Proof.Machine

open Sys2Proof

/-- CKSUM_COMPUTE(lb, sq, cmd, data) (R110). `lb` is summed as given (D40). -/
def execCksumCompute (lb sq cmd : Byte) (data : List Byte) (s : State) : Host.Outcome State Fault Refusal :=
  if payloadOk data then .next (s.emit (.cksum (enc4 (bccSum lb sq cmd data))))
  else .next (s.answerErr .ceTooLong)

/-- CKSUM_DECODE(c0, c1, c2, c3) (R116). -/
def execCksumDecode (c0 c1 c2 c3 : Byte) (s : State) : Host.Outcome State Fault Refusal :=
  if isDigit c0 && isDigit c1 && isDigit c2 && isDigit c3 then
    .next (s.emit (.bcc (BitVec.ofNat Config.bccW (dec4 c0 c1 c2 c3))))
  else .next (s.answerErr .ceBadDigit)

end Sys2Proof.Machine
end

