-- ==== Sys2Proof/Machine/Control.lean ====
section
/-! DEFINITION. The transactions that act on the block as a whole: RESET (70_reset_and_hazards.md R280), DEC_CLEAR
(R281), the null step and the reserved `op` (30_encoding.md R88). -/

namespace Sys2Proof.Machine

open Sys2Proof

/-- RESET (R280): `SEQCTR <- 0x22`, the decoder to IDLE with no fault and no counts, every register the rule calls
unspecified to a free value, and no event. What the host still offers is the host's and stays. -/
def execReset (s : State) : Host.Outcome State Fault Refusal :=
  .next ({ s.clearDecoder.drawUnspecified with seqctr := Config.seqMin }.emit .quiet)

/-- `op = 0b000` (R88): "no state changes and no output is produced". -/
def execNop (s : State) : Host.Outcome State Fault Refusal :=
  .next (s.emit .quiet)

/-- DEC_CLEAR (R281): the decoder to IDLE with no fault and no counts; `SEQCTR` and every other register kept. -/
def execDecClear (s : State) : Host.Outcome State Fault Refusal :=
  .next (s.clearDecoder.emit .quiet)

/-- `op = 0b111` (R88): "it changes no state and returns OpErr(OE_RESERVED)". -/
def execReservedOp (s : State) : Host.Outcome State Fault Refusal :=
  .next (s.answerErr .oeReserved)

end Sys2Proof.Machine
end

