-- ==== Sys2Proof/Machine/Encoder.lean ====
section
/-! DEFINITION. The FrameEncoder's transaction BUILD (41_encoder.md R130). -/

namespace Sys2Proof.Machine

open Sys2Proof

/-- BUILD(cmd, data) (R130): a payload of more than 219 bytes is answered with BE_TOO_LONG and consumes no sequence
value (R133); otherwise the frame carries the old `SEQCTR` (R131), and the counter advances (R132). -/
def execBuild (cmd : Byte) (data : List Byte) (s : State) : Host.Outcome State Fault Refusal :=
  if payloadOk data then
    .next ({ s with seqctr := nextSeq s.seqctr }.emit (.txFrame (outFrame s.seqctr cmd data)))
  else .next (s.answerErr .beTooLong)

end Sys2Proof.Machine
end

