-- ==== Sys2Proof/Machine/Flags.lean ====
section
/-! DEFINITION. The StatusDecoder (43_status.md): the gates, the fault codes, the conditions and the packing of its
result; and the numeric codes of the status registers (10_state.md R24, 60_exceptions.md R240 and R247). The block has
no condition codes (R31). -/

namespace Sys2Proof.Machine

open Sys2Proof

/-- "bit `0xMM` of byte k": `(s & m) != 0` (00_scope.md R10). -/
def bit (s m : Byte) : Bool := (s &&& m) != 0

/-- `g_fatal`: the gate of fault group 1 (R201). -/
def gateFatal (b : Vector Byte 6) : Bool := bit b[0] 0x20

/-- `g_fm`: the gate of fault group 2, "fiscal memory" (R202). -/
def gateFm (b : Vector Byte 6) : Bool := bit b[4] 0x20

/-- Whether a fault code is in `fault_set` (R203 to R210): its bit, and the gate of its group. -/
def faultHolds (b : Vector Byte 6) : DeviceFault → Bool
  | .invalidCommand => gateFatal b && bit b[0] 0x02    -- R203
  | .syntaxError => gateFatal b && bit b[0] 0x01       -- R204
  | .notAllowedInMode => gateFatal b && bit b[1] 0x02  -- R205
  | .arithOverflow => gateFatal b && bit b[1] 0x01     -- R206
  | .outOfPaper => gateFatal b && bit b[2] 0x01        -- R207
  | .fmWriteError => gateFm b && bit b[4] 0x01         -- R208
  | .fmFull => gateFm b && bit b[4] 0x10               -- R209
  | .fmReadOnly => gateFm b && bit b[5] 0x01           -- R210

/-- Whether a condition is in `cond_set` (R212 to R221): its bit alone. -/
def condHolds (b : Vector Byte 6) : Condition → Bool
  | .displayDisconnected => bit b[0] 0x08   -- R212
  | .datetimeNotSet => bit b[0] 0x04        -- R213
  | .fmLowBlocks => bit b[4] 0x08           -- R214
  | .ibfm => bit b[4] 0x04                  -- R215
  | .pib => bit b[4] 0x02                   -- R216
  | .nonfiscalReceiptOpen => bit b[2] 0x20  -- R217
  | .fiscalReceiptOpen => bit b[2] 0x08     -- R218
  | .taxGroupsSet => bit b[5] 0x10          -- R219
  | .fiscalMode => bit b[5] 0x08            -- R220
  | .fmFormatted => bit b[5] 0x02           -- R221

/-- The fault codes in the order of the bits 10 to 17 of R222. -/
def allFaults : List DeviceFault :=
  [.invalidCommand, .syntaxError, .notAllowedInMode, .arithOverflow, .outOfPaper, .fmWriteError, .fmFull, .fmReadOnly]

/-- The conditions in the order of the bits 0 to 9 of R222. -/
def allConditions : List Condition :=
  [.displayDisconnected, .datetimeNotSet, .fmLowBlocks, .ibfm, .pib, .nonfiscalReceiptOpen, .fiscalReceiptOpen,
   .taxGroupsSet, .fiscalMode, .fmFormatted]

/-- `StatusDecode(s0..s5)` (R200, R211). -/
def statusDecode (b : Vector Byte 6) : StatusResult where
  isError := gateFatal b || gateFm b
  gFatal := gateFatal b
  gFm := gateFm b
  faultSet := allFaults.filter (faultHolds b)
  condSet := allConditions.filter (condHolds b)

/-- The bit number of a fault code in `fault_set[7:0]` (R222). -/
def DeviceFault.bitNo : DeviceFault → Nat
  | .invalidCommand => 0
  | .syntaxError => 1
  | .notAllowedInMode => 2
  | .arithOverflow => 3
  | .outOfPaper => 4
  | .fmWriteError => 5
  | .fmFull => 6
  | .fmReadOnly => 7

/-- The bit number of a condition in `cond_set[9:0]` (R222). -/
def Condition.bitNo : Condition → Nat
  | .displayDisconnected => 0
  | .datetimeNotSet => 1
  | .fmLowBlocks => 2
  | .ibfm => 3
  | .pib => 4
  | .nonfiscalReceiptOpen => 5
  | .fiscalReceiptOpen => 6
  | .taxGroupsSet => 7
  | .fiscalMode => 8
  | .fmFormatted => 9

/-- `fault_set[7:0]` as bits. -/
def faultBits (l : List DeviceFault) : BitVec 8 := l.foldr (fun f v => v ||| (1#8 <<< f.bitNo)) 0

/-- `cond_set[9:0]` as bits. -/
def condBits (l : List Condition) : BitVec 10 := l.foldr (fun c v => v ||| (1#10 <<< c.bitNo)) 0

/-- `Pack`: the 21-bit layout of `sd_out` and `frame_dec` (R222): `is_error`, `g_fatal`, `g_fm`, the fault bits, the
condition bits, from bit 20 down. -/
def StatusResult.pack (r : StatusResult) : BitVec 21 :=
  BitVec.ofBool r.isError ++ BitVec.ofBool r.gFatal ++ BitVec.ofBool r.gFm ++ faultBits r.faultSet
    ++ condBits r.condSet

/-- The code of a decoder state on `dec_state[3:0]` (R24). -/
def decStateCode : DecState → BitVec 4
  | .idle => 0x0
  | .readingLength => 0x1
  | .readingSequence => 0x2
  | .readingCommand => 0x3
  | .readingData => 0x4
  | .expectDelimiter => 0x5
  | .readingStatus => 0x6
  | .expectPostamble => 0x7
  | .readingChecksum => 0x8
  | .expectTerminator => 0x9
  | .faulted => 0xF
  | .reserved k => BitVec.ofNat 4 (0xA + k.val)

/-- The code of a fault kind on `fault_kind[2:0]` (R240). -/
def FaultKind.code : FaultKind → BitVec 3
  | .none => 0
  | .malformed => 1
  | .negLength => 2
  | .delimiter => 3
  | .postamble => 4
  | .terminator => 5

/-- The code of an error response on `err_code[3:0]` (R247). -/
def ErrCode.code : ErrCode → BitVec 4
  | .beTooLong => 1
  | .ceTooLong => 2
  | .ceBadDigit => 3
  | .oeReserved => 4

end Sys2Proof.Machine
end

