-- ==== Sys2Proof/Machine/RxRules.lean ====
section
/-! DEFINITION. The rules R151 to R169 of 42_decoder.md, one function each, and the choice among them that RX_BYTE
makes (R150). A rule's function is the rule's pseudocode; the condition on the state and the byte stands in
`rxByRule`. -/

namespace Sys2Proof.Machine

open Sys2Proof

/-- R151: `emit EvNak`; the state stays IDLE. -/
def ruleIdleNak (s : State) : Host.Outcome State Fault Refusal := .next (s.emit .nak)

/-- R152: nothing; no event. -/
def ruleIdleSyn (s : State) : Host.Outcome State Fault Refusal := .next (s.emit .quiet)

/-- R153: `ST <- READING_LENGTH`. -/
def ruleIdlePreamble (s : State) : Host.Outcome State Fault Refusal := .next ((s.goto .readingLength).emit .quiet)

/-- R154: `raise FramingFault(FK_MALFORMED)`. -/
def ruleIdleOther (s : State) : Host.Outcome State Fault Refusal := .next (s.raiseFramingFault .malformed)

/-- R155: the length byte of a frame. -/
def ruleLenOk (b : Byte) (s : State) : Host.Outcome State Fault Refusal :=
  .next (((s.startFrame b).goto .readingSequence).emit .quiet)

/-- R156: `raise FramingFault(FK_NEG_LENGTH)`. -/
def ruleLenNeg (s : State) : Host.Outcome State Fault Refusal := .next (s.raiseFramingFault .negLength)

/-- R157: `SEQ <- b ; ST <- READING_COMMAND`. -/
def ruleSeq (b : Byte) (s : State) : Host.Outcome State Fault Refusal :=
  .next (({ s with seq := b }.goto .readingCommand).emit .quiet)

/-- R158: `CMD <- b`, and on to the payload, or to the delimiter when there is none. -/
def ruleCmd (b : Byte) (s : State) : Host.Outcome State Fault Refusal :=
  .next (({ s with cmd := b }.goto (if s.nlen = 0 then .expectDelimiter else .readingData)).emit .quiet)

/-- R159: one payload byte. `DATA` has 212 entries; there is none at an index past them (notes/assumptions/7.md). -/
def ruleData (b : Byte) (s : State) : Host.Outcome State Fault Refusal :=
  if s.dcnt.toNat < Config.nInMax then
    .next (((s.pushData b).goto
      (if s.dcnt.toNat + 1 = s.nlen.toNat then .expectDelimiter else .readingData)).emit .quiet)
  else .fault .bufferIndexOutOfRange

/-- R160: `ST <- READING_STATUS`. -/
def ruleDelimOk (s : State) : Host.Outcome State Fault Refusal := .next ((s.goto .readingStatus).emit .quiet)

/-- R161: `raise FramingFault(FK_DELIMITER)`. -/
def ruleDelimBad (s : State) : Host.Outcome State Fault Refusal := .next (s.raiseFramingFault .delimiter)

/-- R162: one status byte. `STATUS` has 6 entries (notes/assumptions/7.md). -/
def ruleStatus (b : Byte) (s : State) : Host.Outcome State Fault Refusal :=
  if s.scnt.toNat < Config.statusLen then
    .next (((s.pushStatus b).goto
      (if s.scnt.toNat + 1 = Config.statusLen then .expectPostamble else .readingStatus)).emit .quiet)
  else .fault .bufferIndexOutOfRange

/-- R163: `ST <- READING_CHECKSUM`. -/
def rulePostOk (s : State) : Host.Outcome State Fault Refusal := .next ((s.goto .readingChecksum).emit .quiet)

/-- R164: `raise FramingFault(FK_POSTAMBLE)`. -/
def rulePostBad (s : State) : Host.Outcome State Fault Refusal := .next (s.raiseFramingFault .postamble)

/-- R165: one checksum byte. `CKSUM` has 4 entries (notes/assumptions/7.md). -/
def ruleCksum (b : Byte) (s : State) : Host.Outcome State Fault Refusal :=
  if s.ccnt.toNat < Config.cksumLen then
    .next (((s.pushCksum b).goto
      (if s.ccnt.toNat + 1 = Config.cksumLen then .expectTerminator else .readingChecksum)).emit .quiet)
  else .fault .bufferIndexOutOfRange

/-- The record of R170, from the registers as they are before the transaction. -/
def frameRec (s : State) : FrameRec where
  length := s.len
  sequence := s.seq
  command := s.cmd
  n := s.nlen
  data := s.data.toList.take s.nlen.toNat
  status := s.status
  checksum := s.cksum
  statuses := statusDecode s.status

/-- R166: `ST <- IDLE ; emit EvFrame(FrameRec)`. The record reads `DATA[0 .. NLEN − 1]`; there is no entry past index
211 (notes/assumptions/7.md). -/
def ruleTermOk (s : State) : Host.Outcome State Fault Refusal :=
  if s.nlen.toNat ≤ Config.nInMax then .next ((s.goto .idle).emit (.frame (frameRec s)))
  else .fault .bufferIndexOutOfRange

/-- R167: `raise FramingFault(FK_TERMINATOR)`. -/
def ruleTermBad (s : State) : Host.Outcome State Fault Refusal := .next (s.raiseFramingFault .terminator)

/-- R168: nothing; the byte is dropped. -/
def ruleFaulted (s : State) : Host.Outcome State Fault Refusal := .next (s.emit .quiet)

/-- R169: "A model that represents ST as 4 bits refuses to step from one: RX_BYTE has no result there." -/
def ruleReservedState (_s : State) : Host.Outcome State Fault Refusal := .refused .reservedDecoderState

/-- The rule that the state `ST` and the byte `b` choose (R150). -/
def rxByRule (b : Byte) (s : State) : Host.Outcome State Fault Refusal :=
  match s.st with
  | .idle =>
    if b = Config.nak then ruleIdleNak s
    else if b = Config.syn then ruleIdleSyn s
    else if b = Config.preamble then ruleIdlePreamble s
    else ruleIdleOther s
  | .readingLength => if Config.lenBiasIn ≤ b.toNat then ruleLenOk b s else ruleLenNeg s
  | .readingSequence => ruleSeq b s
  | .readingCommand => ruleCmd b s
  | .readingData => ruleData b s
  | .expectDelimiter => if b = Config.delimiter then ruleDelimOk s else ruleDelimBad s
  | .readingStatus => ruleStatus b s
  | .expectPostamble => if b = Config.postamble then rulePostOk s else rulePostBad s
  | .readingChecksum => ruleCksum b s
  | .expectTerminator => if b = Config.terminator then ruleTermOk s else ruleTermBad s
  | .faulted => ruleFaulted s
  | .reserved _ => ruleReservedState s

end Sys2Proof.Machine
end

