-- ==== Sys2Proof/Machine/RxRows.lean ====
section
/-! DEFINITION. RX_BYTE (42_decoder.md R150) and the meanings of its rows in the opcode table.

A row names a case of RX_BYTE: a state and a class of bytes. The ports that carry it are those of RX_BYTE with its
byte, so a row's meaning is its rule where the row is the case at hand; in any other state, or with a byte outside its
class, the same ports make RX_BYTE choose another rule, and that one's effect is the effect
(notes/assumptions/8.md). -/

namespace Sys2Proof.Machine

open Sys2Proof

/-- RX_BYTE(b) (R150): exactly one of the rules R151 to R169, chosen by `ST` and `b`. -/
def execRxByte (b : Byte) (s : State) : Host.Outcome State Fault Refusal := rxByRule b s

/-- RX.IDLE.NAK (R151). -/
def execRxIdleNak (s : State) : Host.Outcome State Fault Refusal :=
  if s.st = .idle then ruleIdleNak s else rxByRule Config.nak s

/-- RX.IDLE.SYN (R152). -/
def execRxIdleSyn (s : State) : Host.Outcome State Fault Refusal :=
  if s.st = .idle then ruleIdleSyn s else rxByRule Config.syn s

/-- RX.IDLE.PREAMBLE (R153). -/
def execRxIdlePreamble (s : State) : Host.Outcome State Fault Refusal :=
  if s.st = .idle then ruleIdlePreamble s else rxByRule Config.preamble s

/-- RX.IDLE.OTHER (R154). -/
def execRxIdleOther (b : Byte) (s : State) : Host.Outcome State Fault Refusal :=
  if s.st = .idle ∧ b ≠ Config.preamble ∧ b ≠ Config.nak ∧ b ≠ Config.syn then ruleIdleOther s else rxByRule b s

/-- RX.LEN.OK (R155). -/
def execRxLenOk (b : Byte) (s : State) : Host.Outcome State Fault Refusal :=
  if s.st = .readingLength ∧ Config.lenBiasIn ≤ b.toNat then ruleLenOk b s else rxByRule b s

/-- RX.LEN.NEG (R156). -/
def execRxLenNeg (b : Byte) (s : State) : Host.Outcome State Fault Refusal :=
  if s.st = .readingLength ∧ b.toNat < Config.lenBiasIn then ruleLenNeg s else rxByRule b s

/-- RX.SEQ (R157). -/
def execRxSeq (b : Byte) (s : State) : Host.Outcome State Fault Refusal :=
  if s.st = .readingSequence then ruleSeq b s else rxByRule b s

/-- RX.CMD (R158). -/
def execRxCmd (b : Byte) (s : State) : Host.Outcome State Fault Refusal :=
  if s.st = .readingCommand then ruleCmd b s else rxByRule b s

/-- RX.DATA (R159). -/
def execRxData (b : Byte) (s : State) : Host.Outcome State Fault Refusal :=
  if s.st = .readingData then ruleData b s else rxByRule b s

/-- RX.DELIM.OK (R160). -/
def execRxDelimOk (s : State) : Host.Outcome State Fault Refusal :=
  if s.st = .expectDelimiter then ruleDelimOk s else rxByRule Config.delimiter s

/-- RX.DELIM.BAD (R161). -/
def execRxDelimBad (b : Byte) (s : State) : Host.Outcome State Fault Refusal :=
  if s.st = .expectDelimiter ∧ b ≠ Config.delimiter then ruleDelimBad s else rxByRule b s

/-- RX.STATUS (R162). -/
def execRxStatus (b : Byte) (s : State) : Host.Outcome State Fault Refusal :=
  if s.st = .readingStatus then ruleStatus b s else rxByRule b s

/-- RX.POST.OK (R163). -/
def execRxPostOk (s : State) : Host.Outcome State Fault Refusal :=
  if s.st = .expectPostamble then rulePostOk s else rxByRule Config.postamble s

/-- RX.POST.BAD (R164). -/
def execRxPostBad (b : Byte) (s : State) : Host.Outcome State Fault Refusal :=
  if s.st = .expectPostamble ∧ b ≠ Config.postamble then rulePostBad s else rxByRule b s

/-- RX.CKSUM (R165). -/
def execRxCksum (b : Byte) (s : State) : Host.Outcome State Fault Refusal :=
  if s.st = .readingChecksum then ruleCksum b s else rxByRule b s

/-- RX.TERM.OK (R166). -/
def execRxTermOk (s : State) : Host.Outcome State Fault Refusal :=
  if s.st = .expectTerminator then ruleTermOk s else rxByRule Config.terminator s

/-- RX.TERM.BAD (R167). -/
def execRxTermBad (b : Byte) (s : State) : Host.Outcome State Fault Refusal :=
  if s.st = .expectTerminator ∧ b ≠ Config.terminator then ruleTermBad s else rxByRule b s

/-- RX.FAULTED (R168). -/
def execRxFaulted (b : Byte) (s : State) : Host.Outcome State Fault Refusal :=
  if s.st = .faulted then ruleFaulted s else rxByRule b s

/-- RX.RESERVED_STATE (R169). -/
def execRxReservedState (b : Byte) (s : State) : Host.Outcome State Fault Refusal :=
  if Instr.rowState (.rxReservedState b) s.st = true then ruleReservedState s else rxByRule b s

end Sys2Proof.Machine
end

