-- ==== Sys2Proof/Machine/StatusDecoder.lean ====
section
/-! DEFINITION. The StatusDecoder's transaction STATUS_DECODE (43_status.md R200). -/

namespace Sys2Proof.Machine

open Sys2Proof

/-- STATUS_DECODE(s0, …, s5) (R200): total, and without side effects. -/
def execStatusDecode (s0 s1 s2 s3 s4 s5 : Byte) (s : State) : Host.Outcome State Fault Refusal :=
  .next (s.emit (.status (statusDecode #v[s0, s1, s2, s3, s4, s5])))

end Sys2Proof.Machine
end

