-- ==== Sys2Proof/Machine/Dispatch.lean ====
section
/-! DEFINITION. The dispatch: one arm per row of spec/opcode_table.json. -/

namespace Sys2Proof.Machine

open Sys2Proof

def exec (i : Instr) (s : State) : Host.Outcome State Fault Refusal :=
  match i with
  | .reset => Sys2Proof.Machine.execReset s
  | .nop => Sys2Proof.Machine.execNop s
  | .rxByte b => Sys2Proof.Machine.execRxByte b s
  | .build cmd data => Sys2Proof.Machine.execBuild cmd data s
  | .cksumCompute lb sq cmd data => Sys2Proof.Machine.execCksumCompute lb sq cmd data s
  | .cksumDecode c0 c1 c2 c3 => Sys2Proof.Machine.execCksumDecode c0 c1 c2 c3 s
  | .statusDecode s0 s1 s2 s3 s4 s5 => Sys2Proof.Machine.execStatusDecode s0 s1 s2 s3 s4 s5 s
  | .decClear => Sys2Proof.Machine.execDecClear s
  | .reservedOp => Sys2Proof.Machine.execReservedOp s
  | .rxIdleNak => Sys2Proof.Machine.execRxIdleNak s
  | .rxIdleSyn => Sys2Proof.Machine.execRxIdleSyn s
  | .rxIdlePreamble => Sys2Proof.Machine.execRxIdlePreamble s
  | .rxIdleOther b => Sys2Proof.Machine.execRxIdleOther b s
  | .rxLenOk b => Sys2Proof.Machine.execRxLenOk b s
  | .rxLenNeg b => Sys2Proof.Machine.execRxLenNeg b s
  | .rxSeq b => Sys2Proof.Machine.execRxSeq b s
  | .rxCmd b => Sys2Proof.Machine.execRxCmd b s
  | .rxData b => Sys2Proof.Machine.execRxData b s
  | .rxDelimOk => Sys2Proof.Machine.execRxDelimOk s
  | .rxDelimBad b => Sys2Proof.Machine.execRxDelimBad b s
  | .rxStatus b => Sys2Proof.Machine.execRxStatus b s
  | .rxPostOk => Sys2Proof.Machine.execRxPostOk s
  | .rxPostBad b => Sys2Proof.Machine.execRxPostBad b s
  | .rxCksum b => Sys2Proof.Machine.execRxCksum b s
  | .rxTermOk => Sys2Proof.Machine.execRxTermOk s
  | .rxTermBad b => Sys2Proof.Machine.execRxTermBad b s
  | .rxFaulted b => Sys2Proof.Machine.execRxFaulted b s
  | .rxReservedState b => Sys2Proof.Machine.execRxReservedState b s

end Sys2Proof.Machine
end

