-- ==== Sys2Proof/Machine/Step.lean ====
section
/-! DEFINITION. One step of the block: take the ports the host offers, decode them, run the transaction
(30_encoding.md R90: each transaction is one atomic step); and how a word of the opcode table is put where the next
step takes its ports from. -/

namespace Sys2Proof.Machine

open Sys2Proof

/-- One step. It takes the ports, and nothing else stands around the transaction: the block has no program counter
(10_state.md R21). -/
def step (s : State) : Host.Outcome State Fault Refusal :=
  exec (decode s.fetch.1) s.fetch.2

/-- The host offers the word `w` of the table's numbering in the very next step (notes/assumptions/10.md). A word that
the table does not have offers no transaction. -/
def State.withFetchWord (s : State) (nbits w : Nat) : State :=
  { s with inputs := (tableWordPorts nbits w).getD Ports.null :: s.inputs }

end Sys2Proof.Machine
end

