-- ==== Sys2Proof/Machine/Outputs.lean ====
section
/-! DEFINITION. The output ports of 30_encoding.md R93, read from the state. The event and valid outputs are 0 when
their event does not occur; a data output that the latest step does not produce holds no defined value, which is
`none` here (D39, U8). -/

namespace Sys2Proof.Machine.State

open Sys2Proof Sys2Proof.Machine

/-- `dec_state[3:0]` (R92). -/
def decStateOut (s : State) : BitVec 4 := decStateCode s.st
/-- `fault_kind[2:0]` (R92). -/
def faultKindOut (s : State) : BitVec 3 := s.faultKind.code
/-- `seq_ctr[7:0]` (R92). -/
def seqCtrOut (s : State) : Byte := s.seqctr

/-- The frame record the latest step emitted, if it emitted one. -/
def frameOut (s : State) : Option FrameRec :=
  match s.out with
  | .frame r => some r
  | .quiet | .nak | .fault _ | .txFrame _ | .cksum _ | .bcc _ | .status _ | .err _ => none

/-- `tx_frame[0 .. tx_n − 1]`, if the latest step built a frame. -/
def txFrameOut (s : State) : Option (List Byte) :=
  match s.out with
  | .txFrame bytes => some bytes
  | .quiet | .nak | .frame _ | .fault _ | .cksum _ | .bcc _ | .status _ | .err _ => none

/-- `ck_out[0..3]`. -/
def ckOut (s : State) : Option (Vector Byte 4) :=
  match s.out with
  | .cksum c => some c
  | .quiet | .nak | .frame _ | .fault _ | .txFrame _ | .bcc _ | .status _ | .err _ => none

/-- `bcc_out[15:0]`. -/
def bccOut (s : State) : Option (BitVec 16) :=
  match s.out with
  | .bcc v => some v
  | .quiet | .nak | .frame _ | .fault _ | .txFrame _ | .cksum _ | .status _ | .err _ => none

/-- `sd_out[20:0]`, packed as in R222. -/
def sdOut (s : State) : Option (BitVec 21) :=
  match s.out with
  | .status r => some r.pack
  | .quiet | .nak | .frame _ | .fault _ | .txFrame _ | .cksum _ | .bcc _ | .err _ => none

/-- `err_code[3:0]`: 0 when no error is returned (R247). -/
def errCodeOut (s : State) : BitVec 4 :=
  match s.out with
  | .err e => e.code
  | .quiet | .nak | .frame _ | .fault _ | .txFrame _ | .cksum _ | .bcc _ | .status _ => 0

/-- `ev_nak`. -/
def evNak (s : State) : Bool := s.out == .nak
/-- `ev_frame`. -/
def evFrame (s : State) : Bool := s.frameOut.isSome
/-- `ev_fault`; its kind is on `fault_kind`. -/
def evFault (s : State) : Bool :=
  match s.out with
  | .fault _ => true
  | .quiet | .nak | .frame _ | .txFrame _ | .cksum _ | .bcc _ | .status _ | .err _ => false
/-- `tx_valid`. -/
def txValid (s : State) : Bool := s.txFrameOut.isSome
/-- `err`. -/
def errOut (s : State) : Bool := s.errCodeOut != 0

/-- `frame_len`. -/
def frameLen (s : State) : Option Byte := s.frameOut.map FrameRec.length
/-- `frame_seq`. -/
def frameSeq (s : State) : Option Byte := s.frameOut.map FrameRec.sequence
/-- `frame_cmd`. -/
def frameCmd (s : State) : Option Byte := s.frameOut.map FrameRec.command
/-- `frame_n`. -/
def frameN (s : State) : Option Byte := s.frameOut.map FrameRec.n
/-- `frame_data[0 .. frame_n − 1]`. -/
def frameData (s : State) : Option (List Byte) := s.frameOut.map FrameRec.data
/-- `frame_status[0..5]`. -/
def frameStatus (s : State) : Option (Vector Byte 6) := s.frameOut.map FrameRec.status
/-- `frame_cksum[0..3]`. -/
def frameCksum (s : State) : Option (Vector Byte 4) := s.frameOut.map FrameRec.checksum
/-- `frame_dec[20:0]`, packed as in R222. -/
def frameDec (s : State) : Option (BitVec 21) := s.frameOut.map fun r => r.statuses.pack
/-- `tx_n`: the byte count `10 + N` of the built frame (a frame of BUILD has at most 229 bytes: notes/assumptions/16.md). -/
def txN (s : State) : Option Byte := s.txFrameOut.map fun bytes => BitVec.ofNat 8 bytes.length

end Sys2Proof.Machine.State
end

