-- ==== Sys2Proof/Machine/Script.lean ====
section
/-! DEFINITION. The transaction scripts of 30_encoding.md R95, with the pseudo-transaction RX_FRAME of R96, as the
ports they stand for; and the outputs a run of steps gives. -/

namespace Sys2Proof.Machine

open Sys2Proof

/-- The bytes of one inbound frame (R72), in the order of R52: `L = len(data) + 43`. R72 and R96 define a frame for
`len(data) ≤ 212` alone. DESIGN CHOICE: for a longer payload this function is total, with the length byte taken modulo
256; such bytes are no frame (notes/assumptions/16.md). -/
def inFrame (sq cmd : Byte) (data : List Byte) (status : Vector Byte 6) (ck : Vector Byte 4) : List Byte :=
  [Config.preamble, BitVec.ofNat 8 (data.length + Config.lenBiasIn), sq, cmd] ++ data ++ [Config.delimiter]
    ++ status.toList ++ [Config.postamble] ++ ck.toList ++ [Config.terminator]

/-- One line of a script (R95, R96). A string is written as its bytes. -/
inductive ScriptLine where
  /-- `RESET`. -/
  | reset
  /-- `DEC_CLEAR`. -/
  | decClear
  /-- `RX b1 b2 … bk`. -/
  | rx (bs : List Byte)
  /-- `BUILD cmd=… data=…`. What a payload of more than 255 bytes drives is the model's choice
  (notes/assumptions/17.md). -/
  | build (cmd : Byte) (data : List Byte)
  /-- `CKSUM lb=… sq=… cmd=… data=…`. What a payload of more than 255 bytes drives is the model's choice
  (notes/assumptions/17.md). -/
  | cksum (lb sq cmd : Byte) (data : List Byte)
  /-- `CKDEC c0 c1 c2 c3`. -/
  | ckdec (c0 c1 c2 c3 : Byte)
  /-- `STATUS s0 s1 s2 s3 s4 s5`. -/
  | status (s0 s1 s2 s3 s4 s5 : Byte)
  /-- `OP 0bXXX`: one step with that raw `op` and no operands. R95 uses it for 0b000 and 0b111 alone. DESIGN CHOICE: for
  any other value the step has that `op` with every operand port 0 (notes/assumptions/18.md). -/
  | op (v : BitVec 3)
  /-- `RX_FRAME seq=… cmd=… data=… status=… ck=…`; an absent `ck=` is `none`, four bytes 0x30. R96 defines it for
  `len(data) ≤ 212` alone; what it expands to past that is the model's choice (notes/assumptions/16.md). -/
  | rxFrame (sq cmd : Byte) (data : List Byte) (status : Vector Byte 6) (ck : Option (Vector Byte 4))
  /-- `REPEAT k: <line>`, of any line (notes/assumptions/18.md). -/
  | repeatLine (k : Nat) (line : ScriptLine)
  deriving Repr

/-- The ports a line drives, one entry per step; for BUILD and CKSUM those of `encode` (notes/assumptions/17.md), for OP
those with every operand port 0 (notes/assumptions/18.md), and for RX_FRAME those of `inFrame` (notes/assumptions/16.md). -/
def ScriptLine.ports : ScriptLine → List Ports
  | .reset => [encode .reset]
  | .decClear => [encode .decClear]
  | .rx bs => bs.map rxPorts
  | .build c d => [encode (.build c d)]
  | .cksum lb sq c d => [encode (.cksumCompute lb sq c d)]
  | .ckdec c0 c1 c2 c3 => [encode (.cksumDecode c0 c1 c2 c3)]
  | .status s0 s1 s2 s3 s4 s5 => [encode (.statusDecode s0 s1 s2 s3 s4 s5)]
  | .op v => [{ Ports.null with op := v }]
  | .rxFrame sq c d sts k =>
    (inFrame sq c d sts (k.getD (Vector.replicate 4 0x30))).map rxPorts
  | .repeatLine k line => (List.replicate k line.ports).flatten

/-- The state in which the host offers the ports `ps`, and then whatever it offered before. -/
def State.offer (ps : List Ports) (s : State) : State := { s with inputs := ps ++ s.inputs }

/-- `k` steps, with the output of each, first to last; it stops where a step stops. -/
def observe : Nat → State → Host.Outcome (List Output × State) Fault Refusal
  | 0, s => .next ([], s)
  | k + 1, s =>
    match step s with
    | .next s' =>
      match observe k s' with
      | .next (os, t) => .next (s'.out :: os, t)
      | .fault f => .fault f
      | .refused r => .refused r
    | .fault f => .fault f
    | .refused r => .refused r

end Sys2Proof.Machine
end

