-- ==== Sys2Proof/Safety.lean ====
section
/-! DEFINITION. The terms the statements use: which transactions act on which side of the block (20_memory.md R61);
ports that carry a transaction (30_encoding.md R93); the packed layout of 43_status.md R222; the invariant of the block,
that is the legal values of 10_state.md R35, the fault latch's R30, and the positional bookkeeping of 42_decoder.md R171
that makes every buffer index exist; and the fields of an inbound frame. -/

namespace Sys2Proof

/-- The transactions that do not act on the decoder: BUILD, the pure transactions, the null step and the reserved `op`
(20_memory.md R61). RESET acts on both sides and is on neither. -/
def Instr.encoderSide (i : Instr) : Bool :=
  match i with
  | .nop | .build _ _ | .cksumCompute _ _ _ _ | .cksumDecode _ _ _ _ | .statusDecode _ _ _ _ _ _ | .reservedOp => true
  | .reset | .decClear | .rxByte _ | .rxIdleNak | .rxIdleSyn | .rxIdlePreamble | .rxIdleOther _ | .rxLenOk _
  | .rxLenNeg _ | .rxSeq _ | .rxCmd _ | .rxData _ | .rxDelimOk | .rxDelimBad _ | .rxStatus _ | .rxPostOk
  | .rxPostBad _ | .rxCksum _ | .rxTermOk | .rxTermBad _ | .rxFaulted _ | .rxReservedState _ => false

/-- The transactions that act on the decoder alone: RX_BYTE with its rows, and DEC_CLEAR (R61). -/
def Instr.decoderSide (i : Instr) : Bool :=
  match i with
  | .rxByte _ | .decClear | .rxIdleNak | .rxIdleSyn | .rxIdlePreamble | .rxIdleOther _ | .rxLenOk _ | .rxLenNeg _
  | .rxSeq _ | .rxCmd _ | .rxData _ | .rxDelimOk | .rxDelimBad _ | .rxStatus _ | .rxPostOk | .rxPostBad _
  | .rxCksum _ | .rxTermOk | .rxTermBad _ | .rxFaulted _ | .rxReservedState _ => true
  | .reset | .nop | .build _ _ | .cksumCompute _ _ _ _ | .cksumDecode _ _ _ _ | .statusDecode _ _ _ _ _ _
  | .reservedOp => false

/-- The ports ask for the transaction of the select code `o`, with no reset (R91, R93). -/
def Ports.selects (p : Ports) (o : BitVec 3) : Prop := p.rst = false ∧ p.op = o

/-- `n_in` and `data_in` carry the payload `data` (R93): its length, and each of its entries that has a port. -/
def Ports.carries (p : Ports) (data : List Byte) : Prop :=
  p.nIn.toNat = data.length ∧ ∀ k : Fin 219, k.val < data.length → data[k.val]? = some p.dataIn[k]

end Sys2Proof

namespace Sys2Proof.Machine

open Sys2Proof

/-- `SEQCTR` is in `0x22..0x7F` (R22). -/
def State.seqLegal (s : State) : Bool := decide (0x22 ≤ s.seqctr.toNat) && decide (s.seqctr.toNat ≤ 0x7F)

/-- `FAULT_KIND ≠ FK_NONE ⇔ ST = FAULTED` (R30). -/
def State.latchLegal (s : State) : Bool := (s.faultKind != .none) == (s.st == .faulted)

/-- `ST` holds no reserved code (R87). -/
def State.stLegal (s : State) : Bool :=
  match s.st with
  | .reserved _ => false
  | .idle | .readingLength | .readingSequence | .readingCommand | .readingData | .expectDelimiter | .readingStatus
  | .expectPostamble | .readingChecksum | .expectTerminator | .faulted => true

/-- The counts have legal values (R35), and no more payload bytes stand than the buffer has entries. -/
def State.countsLegal (s : State) : Bool :=
  decide (s.dcnt.toNat ≤ s.nlen.toNat) && decide (s.dcnt.toNat ≤ 212) && decide (s.scnt.toNat ≤ 6)
    && decide (s.ccnt.toNat ≤ 4)

/-- From the length byte on, `L ≥ 43` and `NLEN = L − 43` (R155). -/
def State.lengthKnown (s : State) : Bool := decide (43 ≤ s.len.toNat) && decide (s.nlen.toNat + 43 = s.len.toNat)

/-- What the counts are in each state of a frame (R155 to R166). -/
def State.frameLegal (s : State) : Bool :=
  match s.st with
  | .idle | .readingLength | .faulted | .reserved _ => true
  | .readingSequence | .readingCommand => s.lengthKnown && s.dcnt == 0 && s.scnt == 0 && s.ccnt == 0
  | .readingData => s.lengthKnown && decide (s.dcnt.toNat < s.nlen.toNat) && s.scnt == 0 && s.ccnt == 0
  | .expectDelimiter => s.lengthKnown && s.dcnt == s.nlen && s.scnt == 0 && s.ccnt == 0
  | .readingStatus => s.lengthKnown && s.dcnt == s.nlen && decide (s.scnt.toNat < 6) && s.ccnt == 0
  | .expectPostamble => s.lengthKnown && s.dcnt == s.nlen && s.scnt == 6 && s.ccnt == 0
  | .readingChecksum => s.lengthKnown && s.dcnt == s.nlen && s.scnt == 6 && decide (s.ccnt.toNat < 4)
  | .expectTerminator => s.lengthKnown && s.dcnt == s.nlen && s.scnt == 6 && s.ccnt == 4

/-- The invariant. -/
def State.inv (s : State) : Bool :=
  s.seqLegal && s.latchLegal && s.stLegal && s.countsLegal && s.frameLegal

/-- `Next(ST)` of R171: the position of the byte the decoder handles next, counted from the first byte after the
preamble; `none` in the states the table of R171 does not list. -/
def State.nextPosition (s : State) : Option Nat :=
  match s.st with
  | .readingLength => some 1
  | .readingSequence => some 2
  | .readingCommand => some 3
  | .readingData => some (4 + s.dcnt.toNat)
  | .expectDelimiter => some (4 + s.nlen.toNat)
  | .readingStatus => some (5 + s.nlen.toNat + s.scnt.toNat)
  | .expectPostamble => some (11 + s.nlen.toNat)
  | .readingChecksum => some (12 + s.nlen.toNat + s.ccnt.toNat)
  | .expectTerminator => some (16 + s.nlen.toNat)
  | .idle | .faulted | .reserved _ => none

/-- The 21 bits `w` hold the StatusDecoder result `r` in the layout of R222: the layout of `sd_out` and of
`frame_dec`. -/
def StatusResult.laidOut (r : StatusResult) (w : BitVec 21) : Prop :=
  w[20] = r.isError ∧ w[19] = r.gFatal ∧ w[18] = r.gFm ∧
  (w[10] = true ↔ .invalidCommand ∈ r.faultSet) ∧ (w[11] = true ↔ .syntaxError ∈ r.faultSet) ∧
  (w[12] = true ↔ .notAllowedInMode ∈ r.faultSet) ∧ (w[13] = true ↔ .arithOverflow ∈ r.faultSet) ∧
  (w[14] = true ↔ .outOfPaper ∈ r.faultSet) ∧ (w[15] = true ↔ .fmWriteError ∈ r.faultSet) ∧
  (w[16] = true ↔ .fmFull ∈ r.faultSet) ∧ (w[17] = true ↔ .fmReadOnly ∈ r.faultSet) ∧
  (w[0] = true ↔ .displayDisconnected ∈ r.condSet) ∧ (w[1] = true ↔ .datetimeNotSet ∈ r.condSet) ∧
  (w[2] = true ↔ .fmLowBlocks ∈ r.condSet) ∧ (w[3] = true ↔ .ibfm ∈ r.condSet) ∧
  (w[4] = true ↔ .pib ∈ r.condSet) ∧ (w[5] = true ↔ .nonfiscalReceiptOpen ∈ r.condSet) ∧
  (w[6] = true ↔ .fiscalReceiptOpen ∈ r.condSet) ∧ (w[7] = true ↔ .taxGroupsSet ∈ r.condSet) ∧
  (w[8] = true ↔ .fiscalMode ∈ r.condSet) ∧ (w[9] = true ↔ .fmFormatted ∈ r.condSet)

/-- The fields of an inbound frame (R72) that a device may choose freely. -/
structure InboundFrame where
  sequence : Byte
  command : Byte
  data : List Byte
  status : Vector Byte 6
  checksum : Vector Byte 4
  deriving DecidableEq, Repr

/-- `N ≤ 212` (R72). -/
def InboundFrame.fits (f : InboundFrame) : Bool := decide (f.data.length ≤ 212)

/-- The frame's `17 + N` bytes (R72), for a frame that fits (past that: notes/assumptions/16.md). -/
def InboundFrame.bytes (f : InboundFrame) : List Byte :=
  inFrame f.sequence f.command f.data f.status f.checksum

/-- The record that holds those fields (R170), with `L = N + 43`, for a frame that fits (past that:
notes/assumptions/16.md). -/
def InboundFrame.record (f : InboundFrame) : FrameRec where
  length := BitVec.ofNat 8 (f.data.length + 43)
  sequence := f.sequence
  command := f.command
  n := BitVec.ofNat 8 f.data.length
  data := f.data
  status := f.status
  checksum := f.checksum
  statuses := statusDecode f.status

/-- The outcome with its next state, if it has one, changed by `g`. -/
def mapNext (g : State → State) (o : Host.Outcome State Fault Refusal) : Host.Outcome State Fault Refusal :=
  match o with
  | .next t => .next (g t)
  | .fault f => .fault f
  | .refused r => .refused r

end Sys2Proof.Machine
end

