-- ==== Sys2Proof/Certificates/Slice0/Obligations.lean ====
section
/-! DEFINITION. The statements for the provers. Each docstring names the rules of spec/ it formalises. -/

open Sys2Proof Sys2Proof.Machine

/-! ### Selecting and encoding -/

/-- Decode and encode agree on the transactions (R91, R93): no operand bit is dropped on the ports. -/
def Obligations.DecodeEncodeTransactions : Prop :=
  ∀ i : Instr, i.wellFormed = true → i.isRow = false → decode (encode i) = i

/-- Decode and encode agree on the rows of RX_BYTE: in each state a row belongs to, its ports select that row. -/
def Obligations.DecodeEncodeRows : Prop :=
  ∀ (i : Instr) (st : DecState), i.wellFormed = true → i.isRow = true → i.rowState st = true →
    decodeIn st (encode i) = i

/-- The table of R91, with the operand ports R93 gives each transaction; the code 0b111 is refused (R88). -/
def Obligations.OpSelectsTransaction : Prop :=
  ∀ p : Ports,
    (p.rst = true → decode p = .reset) ∧
    (p.rst = false →
      (p.op = 0b000#3 → decode p = .nop) ∧
      (p.op = 0b001#3 → decode p = .rxByte p.rxByte) ∧
      (p.op = 0b010#3 → ∃ d : List Byte, decode p = .build p.cmd d ∧ d.length = p.nIn.toNat ∧
        ∀ k : Fin 219, k.val < p.nIn.toNat → d[k.val]? = some p.dataIn[k]) ∧
      (p.op = 0b011#3 → ∃ d : List Byte, decode p = .cksumCompute p.lenIn p.seqIn p.cmd d ∧
        d.length = p.nIn.toNat ∧ ∀ k : Fin 219, k.val < p.nIn.toNat → d[k.val]? = some p.dataIn[k]) ∧
      (p.op = 0b100#3 → decode p = .cksumDecode p.ckIn[0] p.ckIn[1] p.ckIn[2] p.ckIn[3]) ∧
      (p.op = 0b101#3 →
        decode p = .statusDecode p.stIn[0] p.stIn[1] p.stIn[2] p.stIn[3] p.stIn[4] p.stIn[5]) ∧
      (p.op = 0b110#3 → decode p = .decClear) ∧
      (p.op = 0b111#3 → decode p = .reservedOp ∧
        ∀ s : State, exec (decode p) s = .next { s with out := .err .oeReserved }))

/-- Words of the opcode table: the eight values of `op`, and the two bytes that select a row of IDLE and are no value
of `op`. That a word below 8 is read as `op` is the model's choice (notes/assumptions/10.md). -/
def Obligations.TableWordsDecode : Prop :=
  decodeTableWord 8 0b000 = some .nop ∧
  decodeTableWord 8 0b001 = some (.rxByte 0x00) ∧
  decodeTableWord 8 0b010 = some (.build 0x00 []) ∧
  decodeTableWord 8 0b011 = some (.cksumCompute 0x00 0x00 0x00 []) ∧
  decodeTableWord 8 0b100 = some (.cksumDecode 0x00 0x00 0x00 0x00) ∧
  decodeTableWord 8 0b101 = some (.statusDecode 0x00 0x00 0x00 0x00 0x00 0x00) ∧
  decodeTableWord 8 0b110 = some .decClear ∧
  decodeTableWord 8 0b111 = some .reservedOp ∧
  decodeTableWord 8 0x15 = some .rxIdleNak ∧
  decodeTableWord 8 0x16 = some .rxIdleSyn ∧
  decodeTableWord 1 0b1 = some .reset

/-- A step runs the transaction that the offered ports select, once the host's queue has moved past them; with nothing
offered it runs the null step (the queue and its empty case are the model's: notes/assumptions/4.md). With `rst`
asserted it runs RESET, whatever `op` is (R249). -/
def Obligations.StepRunsOfferedTransaction : Prop :=
  (∀ (s : State) (p : Ports) (rest : List Ports), s.inputs = p :: rest →
    step s = exec (decode p) { s with inputs := rest } ∧
    (p.rst = true → step s = exec .reset { s with inputs := rest })) ∧
  (∀ s : State, s.inputs = [] → step s = exec .nop s)

/-- R96: the bytes RX_FRAME stands for, with `ck=` given and with `ck=` absent. -/
def Obligations.RxFrameExpands : Prop :=
  ∀ (sq cmd s0 s1 s2 s3 s4 s5 : Byte) (data : List Byte), data.length ≤ 212 →
    (ScriptLine.rxFrame sq cmd data #v[s0, s1, s2, s3, s4, s5] none).ports =
      (ScriptLine.rx ([0x01, BitVec.ofNat 8 (data.length + 43), sq, cmd] ++ data ++
        [0x04, s0, s1, s2, s3, s4, s5, 0x05, 0x30, 0x30, 0x30, 0x30, 0x03])).ports ∧
    ∀ c0 c1 c2 c3 : Byte,
      (ScriptLine.rxFrame sq cmd data #v[s0, s1, s2, s3, s4, s5] (some #v[c0, c1, c2, c3])).ports =
        (ScriptLine.rx ([0x01, BitVec.ofNat 8 (data.length + 43), sq, cmd] ++ data ++
          [0x04, s0, s1, s2, s3, s4, s5, 0x05, c0, c1, c2, c3, 0x03])).ports

/-! ### The whole block -/

/-- R280: what a RESET transaction leaves, in every state; nothing is said of the registers the rule calls
unspecified. It wins over an `op` in the same step. -/
def Obligations.ResetTransaction : Prop :=
  (∀ s : State, ∃ t : State, exec .reset s = .next t ∧ t.seqctr = 0x22 ∧ t.st = .idle ∧ t.faultKind = .none ∧
    t.dcnt = 0 ∧ t.scnt = 0 ∧ t.ccnt = 0 ∧ t.out = .quiet) ∧
  (∀ p : Ports, p.rst = true → decode p = .reset)

/-- R282 with R280: power-on is a state RESET leaves, in every register R280 gives a value for. -/
def Obligations.PowerOnIsResetState : Prop :=
  State.reset.seqctr = 0x22 ∧ State.reset.st = .idle ∧ State.reset.faultKind = .none ∧ State.reset.dcnt = 0 ∧
  State.reset.scnt = 0 ∧ State.reset.ccnt = 0 ∧ State.reset.out = .quiet ∧ State.reset.inputs = [] ∧
  ∀ s t : State, exec .reset s = .next t →
    t.seqctr = State.reset.seqctr ∧ t.st = State.reset.st ∧ t.faultKind = State.reset.faultKind ∧
    t.dcnt = State.reset.dcnt ∧ t.scnt = State.reset.scnt ∧ t.ccnt = State.reset.ccnt

/-- R281: DEC_CLEAR, with its frame: every register it does not list is unchanged; and the `op` that selects it. -/
def Obligations.DecClearTransaction : Prop :=
  (∀ s : State, exec .decClear s =
    .next { s with st := .idle, faultKind := .none, dcnt := 0, scnt := 0, ccnt := 0, out := .quiet }) ∧
  ∀ p : Ports, p.selects 0b110 → decode p = .decClear

/-- R57: RESET and DEC_CLEAR are idempotent; for RESET, in the registers R280 gives a value for. -/
def Obligations.ClearingIsIdempotent : Prop :=
  (∀ s t : State, exec .decClear s = .next t → exec .decClear t = .next t) ∧
  (∀ s t : State, exec .reset s = .next t → ∃ u : State, exec .reset t = .next u ∧ u.seqctr = t.seqctr ∧
    u.st = t.st ∧ u.faultKind = t.faultKind ∧ u.dcnt = t.dcnt ∧ u.scnt = t.scnt ∧ u.ccnt = t.ccnt ∧
    u.out = t.out)

/-- R88: the null step and the reserved `op`, each with its frame: no register changes. -/
def Obligations.NullStepAndReservedOp : Prop :=
  ∀ s : State,
    exec .nop s = .next { s with out := .quiet } ∧
    exec .reservedOp s = .next { s with out := .err .oeReserved } ∧
    ∀ p : Ports, p.rst = false →
      (p.op = 0b000#3 → decode p = .nop) ∧ (p.op = 0b111#3 → decode p = .reservedOp)

/-- R247: `err_code` on the port, and which transactions return an error at all. -/
def Obligations.ErrorCodesOnPort : Prop :=
  ∀ (i : Instr) (s t : State), exec i s = .next t →
    (t.errCodeOut = 1 ↔ ∃ cmd data, i = .build cmd data ∧ 219 < data.length) ∧
    (t.errCodeOut = 2 ↔ ∃ lb sq cmd data, i = .cksumCompute lb sq cmd data ∧ 219 < data.length) ∧
    (t.errCodeOut = 3 ↔ ∃ c0 c1 c2 c3, i = .cksumDecode c0 c1 c2 c3 ∧
      ∃ c ∈ [c0, c1, c2, c3], c.toNat < 0x30 ∨ 0x3F < c.toNat) ∧
    (t.errCodeOut = 4 ↔ i = .reservedOp) ∧
    t.errCodeOut.toNat ≤ 4 ∧ (t.errOut = true ↔ t.errCodeOut ≠ 0)

/-- R92, with the codes of R24 and R240: the three status outputs show `ST`, `FAULT_KIND` and `SEQCTR`. -/
def Obligations.StatusOutputs : Prop :=
  ∀ s : State, s.seqCtrOut = s.seqctr ∧
    (s.decStateOut = 0x0 ↔ s.st = .idle) ∧ (s.decStateOut = 0x1 ↔ s.st = .readingLength) ∧
    (s.decStateOut = 0x2 ↔ s.st = .readingSequence) ∧ (s.decStateOut = 0x3 ↔ s.st = .readingCommand) ∧
    (s.decStateOut = 0x4 ↔ s.st = .readingData) ∧ (s.decStateOut = 0x5 ↔ s.st = .expectDelimiter) ∧
    (s.decStateOut = 0x6 ↔ s.st = .readingStatus) ∧ (s.decStateOut = 0x7 ↔ s.st = .expectPostamble) ∧
    (s.decStateOut = 0x8 ↔ s.st = .readingChecksum) ∧ (s.decStateOut = 0x9 ↔ s.st = .expectTerminator) ∧
    (s.decStateOut = 0xF ↔ s.st = .faulted) ∧
    (0xA ≤ s.decStateOut.toNat ∧ s.decStateOut.toNat ≤ 0xE ↔ ∃ k, s.st = .reserved k) ∧
    (s.faultKindOut = 0 ↔ s.faultKind = .none) ∧ (s.faultKindOut = 1 ↔ s.faultKind = .malformed) ∧
    (s.faultKindOut = 2 ↔ s.faultKind = .negLength) ∧ (s.faultKindOut = 3 ↔ s.faultKind = .delimiter) ∧
    (s.faultKindOut = 4 ↔ s.faultKind = .postamble) ∧ (s.faultKindOut = 5 ↔ s.faultKind = .terminator) ∧
    s.faultKindOut.toNat ≤ 5

/-- R246: every event and result comes out of the transaction that causes it, and of that transaction alone: after a
transaction each output port stands exactly when that transaction is its cause. -/
def Obligations.EventsComeFromTheirTransaction : Prop :=
  ∀ (i : Instr) (s t : State), exec i s = .next t →
    (t.evNak = true ↔ i.rxOperand = some 0x15 ∧ s.st = .idle) ∧
    (t.evFrame = true ↔ i.rxOperand = some 0x03 ∧ s.st = .expectTerminator) ∧
    (t.evFault = true ↔ s.st ≠ .faulted ∧ t.st = .faulted) ∧
    (t.txValid = true ↔ ∃ cmd data, i = .build cmd data ∧ data.length ≤ 219) ∧
    (t.ckOut.isSome = true ↔ ∃ lb sq cmd data, i = .cksumCompute lb sq cmd data ∧ data.length ≤ 219) ∧
    (t.bccOut.isSome = true ↔ ∃ c0 c1 c2 c3, i = .cksumDecode c0 c1 c2 c3 ∧
      ∀ c ∈ [c0, c1, c2, c3], 0x30 ≤ c.toNat ∧ c.toNat ≤ 0x3F) ∧
    (t.sdOut.isSome = true ↔ ∃ s0 s1 s2 s3 s4 s5, i = .statusDecode s0 s1 s2 s3 s4 s5)

/-! ### ChecksumCodec -/

/-- R110 and R112: CKSUM_COMPUTE's four digits of the exact sum, most significant first, or CE_TOO_LONG; the ports that
carry it and its result; with its frame: no register changes. -/
def Obligations.CksumComputeResult : Prop :=
  ∀ (lb sq cmd : Byte) (data : List Byte) (s : State) (v : Nat) (ck : Vector Byte 4),
    v = lb.toNat + sq.toNat + cmd.toNat + (data.map BitVec.toNat).sum + 0x05 →
    ck = #v[BitVec.ofNat 8 (0x30 + v / 4096), BitVec.ofNat 8 (0x30 + v / 256 % 16),
      BitVec.ofNat 8 (0x30 + v / 16 % 16), BitVec.ofNat 8 (0x30 + v % 16)] →
    (data.length ≤ 219 → exec (.cksumCompute lb sq cmd data) s = .next { s with out := .cksum ck } ∧
      ({ s with out := .cksum ck } : State).ckOut = some ck) ∧
    (219 < data.length → exec (.cksumCompute lb sq cmd data) s = .next { s with out := .err .ceTooLong }) ∧
    ∀ p : Ports, p.selects 0b011 → p.lenIn = lb → p.seqIn = sq → p.cmd = cmd → p.carries data →
      exec (decode p) s = exec (.cksumCompute lb sq cmd data) s

/-- R116: CKSUM_DECODE reads the digits exactly, or answers CE_BAD_DIGIT; the ports that carry it and its result; with
its frame: no register changes. -/
def Obligations.CksumDecodeResult : Prop :=
  ∀ (c0 c1 c2 c3 : Byte) (s : State),
    ((∀ c ∈ [c0, c1, c2, c3], 0x30 ≤ c.toNat ∧ c.toNat ≤ 0x3F) → ∃ v : BitVec 16,
      v.toNat = (c0.toNat - 0x30) * 4096 + (c1.toNat - 0x30) * 256 + (c2.toNat - 0x30) * 16 + (c3.toNat - 0x30) ∧
      exec (.cksumDecode c0 c1 c2 c3) s = .next { s with out := .bcc v } ∧
      ({ s with out := .bcc v } : State).bccOut = some v) ∧
    ((∃ c ∈ [c0, c1, c2, c3], c.toNat < 0x30 ∨ 0x3F < c.toNat) →
      exec (.cksumDecode c0 c1 c2 c3) s = .next { s with out := .err .ceBadDigit }) ∧
    ∀ p : Ports, p.selects 0b100 → p.ckIn = #v[c0, c1, c2, c3] → decode p = .cksumDecode c0 c1 c2 c3

/-- R113: the bounds of the sum, both reached; so every digit byte is in 0x30 to 0x3F, and the first at most 0x3D. -/
def Obligations.CksumSumBounds : Prop :=
  (∀ (lb sq cmd : Byte) (data : List Byte), data.length ≤ 219 →
    bccSum lb sq cmd data ≤ 56615 ∧
    (∀ k : Fin 4, 0x30 ≤ (enc4 (bccSum lb sq cmd data))[k].toNat ∧
      (enc4 (bccSum lb sq cmd data))[k].toNat ≤ 0x3F) ∧
    (enc4 (bccSum lb sq cmd data))[0].toNat ≤ 0x3D) ∧
  bccSum 0xFF 0xFF 0xFF (List.replicate 219 0xFF) = 56615 ∧
  (∀ (sq cmd : Byte) (data : List Byte), data.length ≤ 219 → sq.toNat ≤ 0x7F →
    bccSum (BitVec.ofNat 8 (0x24 + data.length)) sq cmd data ≤ 56487) ∧
  bccSum 0xFF 0x7F 0xFF (List.replicate 219 0xFF) = 56487

/-- R117: the round-trip laws, through the transactions. -/
def Obligations.ChecksumRoundTrip : Prop :=
  (∀ (v : Nat) (s : State), v ≤ 65535 →
    exec (.cksumDecode (enc4 v)[0] (enc4 v)[1] (enc4 v)[2] (enc4 v)[3]) s =
      .next { s with out := .bcc (BitVec.ofNat 16 v) }) ∧
  (∀ (c0 c1 c2 c3 : Byte) (s t : State) (v : BitVec 16), exec (.cksumDecode c0 c1 c2 c3) s = .next t →
    t.out = .bcc v → enc4 v.toNat = #v[c0, c1, c2, c3]) ∧
  (∀ (lb sq cmd : Byte) (data : List Byte) (s t : State) (ck : Vector Byte 4),
    exec (.cksumCompute lb sq cmd data) s = .next t → t.out = .cksum ck →
    ∃ (u : State) (v : BitVec 16), exec (.cksumDecode ck[0] ck[1] ck[2] ck[3]) t = .next u ∧ u.out = .bcc v ∧
      enc4 v.toNat = ck)

/-- R118: CKSUM_COMPUTE and CKSUM_DECODE depend only on their operands. -/
def Obligations.ChecksumReadsNoRegister : Prop :=
  ∀ (i : Instr) (s u : State),
    ((∃ lb sq cmd data, i = .cksumCompute lb sq cmd data) ∨ (∃ c0 c1 c2 c3, i = .cksumDecode c0 c1 c2 c3)) →
    ∃ o : Output, exec i s = .next { s with out := o } ∧ exec i u = .next { u with out := o }

/-! ### FrameEncoder -/

/-- R130 to R133: BUILD's frame with the old `SEQCTR`, the advance of `SEQCTR`, and the answer to an over-long payload;
the ports that carry it and its result; with its frame: no other register changes. -/
def Obligations.BuildResult : Prop :=
  ∀ (cmd : Byte) (data f : List Byte) (s t : State) (v : Nat),
    v = (0x24 + data.length) + s.seqctr.toNat + cmd.toNat + (data.map BitVec.toNat).sum + 0x05 →
    f = [0x01, BitVec.ofNat 8 (0x24 + data.length), s.seqctr, cmd] ++ data ++
      [0x05, BitVec.ofNat 8 (0x30 + v / 4096), BitVec.ofNat 8 (0x30 + v / 256 % 16),
        BitVec.ofNat 8 (0x30 + v / 16 % 16), BitVec.ofNat 8 (0x30 + v % 16), 0x03] →
    t = { s with seqctr := if 0x7F < s.seqctr.toNat + 1 then 0x22 else s.seqctr + 1, out := .txFrame f } →
    (data.length ≤ 219 → exec (.build cmd data) s = .next t ∧ t.txValid = true ∧ t.txFrameOut = some f ∧
      ∃ n : Byte, t.txN = some n ∧ n.toNat = 10 + data.length ∧ f.length = 10 + data.length) ∧
    (219 < data.length → exec (.build cmd data) s = .next { s with out := .err .beTooLong }) ∧
    ∀ p : Ports, p.selects 0b010 → p.cmd = cmd → p.carries data → exec (decode p) s = exec (.build cmd data) s

/-- R70 and R114: where each field of a built frame stands, and that its checksum bytes carry the sum of exactly the
bytes at the positions 1 to `4 + N`. -/
def Obligations.BuiltFrameLayout : Prop :=
  ∀ (cmd : Byte) (data f : List Byte) (s t : State), exec (.build cmd data) s = .next t → t.out = .txFrame f →
    data.length ≤ 219 ∧ f.length = 10 + data.length ∧
    f[0]? = some 0x01 ∧ f[1]? = some (BitVec.ofNat 8 (0x24 + data.length)) ∧ f[2]? = some s.seqctr ∧
    f[3]? = some cmd ∧ (∀ k, k < data.length → f[4 + k]? = data[k]?) ∧ f[4 + data.length]? = some 0x05 ∧
    f[9 + data.length]? = some 0x03 ∧
    ∃ (c0 c1 c2 c3 : Byte) (u : State) (w : BitVec 16),
      (f.drop (5 + data.length)).take 4 = [c0, c1, c2, c3] ∧ exec (.cksumDecode c0 c1 c2 c3) t = .next u ∧
      u.out = .bcc w ∧ w.toNat = (((f.drop 1).take (4 + data.length)).map BitVec.toNat).sum

/-- R134: over any run of BUILDs, accepted or not, `SEQCTR` is back at its value exactly when a multiple of 94 of them
succeeded; 94 that all succeed carry each value of `0x22..0x7F` once; and the frames carry the values in turn, from the
one `SEQCTR` held at the start. -/
def Obligations.SequencePeriod : Prop :=
  ∀ (s : State) (rs : List (Byte × List Byte)), s.seqLegal = true → (∀ r ∈ rs, payloadFits r.2 = true) →
    ∃ (os : List Output) (t : State),
      observe rs.length (s.offer (rs.map fun r => encode (.build r.1 r.2))) = .next (os, t) ∧
      (t.seqctr = s.seqctr ↔ 94 ∣ (rs.filter fun r => decide (r.2.length ≤ 219)).length) ∧
      ((∀ r ∈ rs, r.2.length ≤ 219) → rs.length = 94 → ∀ v : Byte, 0x22 ≤ v.toNat → v.toNat ≤ 0x7F →
        ∃ k : Nat, (∃ f, os[k]? = some (.txFrame f) ∧ f[2]? = some v) ∧
          ∀ j f, os[j]? = some (.txFrame f) → f[2]? = some v → j = k) ∧
      ((∀ r ∈ rs, r.2.length ≤ 219) →
        (∀ f, os[0]? = some (.txFrame f) → f[2]? = some s.seqctr) ∧
        ∀ j f g, os[j]? = some (.txFrame f) → os[j + 1]? = some (.txFrame g) →
          ∃ a b : Byte, f[2]? = some a ∧ g[2]? = some b ∧ b = if 0x7F < a.toNat + 1 then 0x22 else a + 1)

/-- R135: no instruction other than BUILD and RESET writes `SEQCTR`, and none of them reads it: with another value in
it, each ends as before but for that value. -/
def Obligations.OnlyBuildAndResetUseSeqctr : Prop :=
  ∀ (i : Instr) (s : State) (v : Byte), i ≠ .reset → (∀ cmd data, i ≠ .build cmd data) →
    exec i { s with seqctr := v } = mapNext (fun t => { t with seqctr := v }) (exec i s) ∧
    ∀ t, exec i s = .next t → t.seqctr = s.seqctr

/-! ### FrameDecoder, rule by rule. Each statement is about RX_BYTE and about the row of the opcode table. -/

/-- R150: for each state and byte exactly one row applies, and RX_BYTE runs that row. -/
def Obligations.RxByteRunsOneRow : Prop :=
  (∀ (st : DecState) (b : Byte), ∃! i : Instr,
    i.isRow = true ∧ i.wellFormed = true ∧ i.rowState st = true ∧ i.rxOperand = some b) ∧
  (∀ (b : Byte) (s : State) (i : Instr), i.isRow = true → i.wellFormed = true → i.rowState s.st = true →
    i.rxOperand = some b → exec (.rxByte b) s = exec i s)

/-- A row offered in a state or with a byte that is not its case is still the RX_BYTE on its ports (the model's reading:
notes/assumptions/8.md). Outside the reserved `ST` codes it answers a next state, wherever the one buffer entry that the
rule of the state names exists: `DATA[DCNT]`, `STATUS[SCNT]`, `CKSUM[CCNT]`, or `DATA[0 .. NLEN − 1]`; in the other
states whatever the counts are. -/
def Obligations.RowsAreRxByte : Prop :=
  ∀ (i : Instr) (b : Byte) (s : State), i.isRow = true → i.rxOperand = some b →
    exec i s = exec (.rxByte b) s ∧
    (s.stLegal = true → (s.st = .readingData → s.dcnt.toNat < 212) → (s.st = .readingStatus → s.scnt.toNat < 6) →
      (s.st = .readingChecksum → s.ccnt.toNat < 4) → (s.st = .expectTerminator → s.nlen.toNat ≤ 212) →
      ∃ t, exec i s = .next t)

/-- R151 to R153: NAK, SYN and the preamble in IDLE. -/
def Obligations.IdleControlBytes : Prop :=
  ∀ s : State, s.st = .idle →
    exec .rxIdleNak s = .next { s with out := .nak } ∧ exec (.rxByte 0x15) s = exec .rxIdleNak s ∧
    exec .rxIdleSyn s = .next { s with out := .quiet } ∧ exec (.rxByte 0x16) s = exec .rxIdleSyn s ∧
    exec .rxIdlePreamble s = .next { s with st := .readingLength, out := .quiet } ∧
    exec (.rxByte 0x01) s = exec .rxIdlePreamble s

/-- R154: any other byte in IDLE raises FK_MALFORMED. -/
def Obligations.IdleOtherByte : Prop :=
  ∀ (b : Byte) (s : State), s.st = .idle → b ≠ 0x01 → b ≠ 0x15 → b ≠ 0x16 →
    exec (.rxIdleOther b) s = .next { s with faultKind := .malformed, st := .faulted, out := .fault .malformed } ∧
    exec (.rxByte b) s = exec (.rxIdleOther b) s

/-- R155 and R156: the length byte. `NLEN` is written as the number `L − 43`. -/
def Obligations.LengthByte : Prop :=
  ∀ (b : Byte) (s : State), s.st = .readingLength →
    (0x2B ≤ b.toNat → exec (.rxByte b) s = exec (.rxLenOk b) s ∧ ∃ n : Byte, n.toNat = b.toNat - 0x20 - 11 ∧
      n.toNat ≤ 212 ∧ exec (.rxLenOk b) s = .next { s with
        len := b, nlen := n, dcnt := 0, scnt := 0, ccnt := 0, st := .readingSequence, out := .quiet }) ∧
    (b.toNat < 0x2B → exec (.rxByte b) s = exec (.rxLenNeg b) s ∧
      exec (.rxLenNeg b) s = .next { s with faultKind := .negLength, st := .faulted, out := .fault .negLength })

/-- R157 and R158: the sequence and command bytes, any value. -/
def Obligations.SequenceAndCommandBytes : Prop :=
  ∀ (b : Byte) (s : State),
    (s.st = .readingSequence → exec (.rxByte b) s = exec (.rxSeq b) s ∧
      exec (.rxSeq b) s = .next { s with seq := b, st := .readingCommand, out := .quiet }) ∧
    (s.st = .readingCommand → exec (.rxByte b) s = exec (.rxCmd b) s ∧
      (s.nlen.toNat = 0 → exec (.rxCmd b) s = .next { s with cmd := b, st := .expectDelimiter, out := .quiet }) ∧
      (0 < s.nlen.toNat → exec (.rxCmd b) s = .next { s with cmd := b, st := .readingData, out := .quiet }))

/-- R159: a payload byte, in every state in which `DATA[DCNT]` exists (in every state that meets the invariant it
does). -/
def Obligations.PayloadByte : Prop :=
  ∀ (b : Byte) (s : State), s.st = .readingData → s.dcnt.toNat < 212 →
    exec (.rxByte b) s = exec (.rxData b) s ∧
    ∃ t : State, exec (.rxData b) s = .next t ∧
      (∀ k : Fin 212, t.data[k] = if k.val = s.dcnt.toNat then b else s.data[k]) ∧
      t.dcnt.toNat = s.dcnt.toNat + 1 ∧
      t.st = (if s.dcnt.toNat + 1 = s.nlen.toNat then .expectDelimiter else .readingData) ∧
      t = { s with data := t.data, dcnt := t.dcnt, st := t.st, out := .quiet }

/-- R160 and R161: the delimiter. -/
def Obligations.DelimiterByte : Prop :=
  ∀ (b : Byte) (s : State), s.st = .expectDelimiter →
    exec .rxDelimOk s = .next { s with st := .readingStatus, out := .quiet } ∧
    exec (.rxByte 0x04) s = exec .rxDelimOk s ∧
    (b ≠ 0x04 → exec (.rxByte b) s = exec (.rxDelimBad b) s ∧
      exec (.rxDelimBad b) s = .next { s with faultKind := .delimiter, st := .faulted, out := .fault .delimiter })

/-- R162: a status byte, in every state in which `STATUS[SCNT]` exists. -/
def Obligations.StatusByte : Prop :=
  ∀ (b : Byte) (s : State), s.st = .readingStatus → s.scnt.toNat < 6 →
    exec (.rxByte b) s = exec (.rxStatus b) s ∧
    ∃ t : State, exec (.rxStatus b) s = .next t ∧
      (∀ k : Fin 6, t.status[k] = if k.val = s.scnt.toNat then b else s.status[k]) ∧
      t.scnt.toNat = s.scnt.toNat + 1 ∧
      t.st = (if s.scnt.toNat + 1 = 6 then .expectPostamble else .readingStatus) ∧
      t = { s with status := t.status, scnt := t.scnt, st := t.st, out := .quiet }

/-- R163 and R164: the postamble. -/
def Obligations.PostambleByte : Prop :=
  ∀ (b : Byte) (s : State), s.st = .expectPostamble →
    exec .rxPostOk s = .next { s with st := .readingChecksum, out := .quiet } ∧
    exec (.rxByte 0x05) s = exec .rxPostOk s ∧
    (b ≠ 0x05 → exec (.rxByte b) s = exec (.rxPostBad b) s ∧
      exec (.rxPostBad b) s = .next { s with faultKind := .postamble, st := .faulted, out := .fault .postamble })

/-- R165: a checksum byte, unchecked, in every state in which `CKSUM[CCNT]` exists. -/
def Obligations.ChecksumByte : Prop :=
  ∀ (b : Byte) (s : State), s.st = .readingChecksum → s.ccnt.toNat < 4 →
    exec (.rxByte b) s = exec (.rxCksum b) s ∧
    ∃ t : State, exec (.rxCksum b) s = .next t ∧
      (∀ k : Fin 4, t.cksum[k] = if k.val = s.ccnt.toNat then b else s.cksum[k]) ∧
      t.ccnt.toNat = s.ccnt.toNat + 1 ∧
      t.st = (if s.ccnt.toNat + 1 = 4 then .expectTerminator else .readingChecksum) ∧
      t = { s with cksum := t.cksum, ccnt := t.ccnt, st := t.st, out := .quiet }

/-- R166, R167 and R170: the terminator emits the record of the registers as they were, in every state in which the
entries `DATA[0 .. NLEN − 1]` exist; any other byte faults. -/
def Obligations.TerminatorByte : Prop :=
  ∀ (b : Byte) (s : State), s.st = .expectTerminator →
    exec (.rxByte 0x03) s = exec .rxTermOk s ∧
    (s.nlen.toNat ≤ 212 → ∃ r : FrameRec, exec .rxTermOk s = .next { s with st := .idle, out := .frame r } ∧
      r.length = s.len ∧ r.sequence = s.seq ∧ r.command = s.cmd ∧ r.n = s.nlen ∧
      r.data.length = s.nlen.toNat ∧ (∀ k : Fin 212, k.val < s.nlen.toNat → r.data[k.val]? = some s.data[k]) ∧
      r.status = s.status ∧ r.checksum = s.cksum ∧ r.statuses = statusDecode s.status) ∧
    (b ≠ 0x03 → exec (.rxByte b) s = exec (.rxTermBad b) s ∧
      exec (.rxTermBad b) s = .next { s with faultKind := .terminator, st := .faulted, out := .fault .terminator })

/-- R168: in FAULTED every byte is dropped. -/
def Obligations.FaultedDropsBytes : Prop :=
  ∀ (b : Byte) (s : State), s.st = .faulted →
    exec (.rxFaulted b) s = .next { s with out := .quiet } ∧ exec (.rxByte b) s = exec (.rxFaulted b) s

/-- R169: RX_BYTE has no result with a reserved `ST` code, and no transaction reaches such a code. -/
def Obligations.ReservedStateRefuses : Prop :=
  (∀ (b : Byte) (s : State) (k : Fin 5), s.st = .reserved k →
    exec (.rxReservedState b) s = .refused .reservedDecoderState ∧
    exec (.rxByte b) s = .refused .reservedDecoderState) ∧
  ∀ (i : Instr) (s t : State) (k : Fin 5), exec i s = .next t → t.st = .reserved k → s.st = .reserved k

/-- Where a buffer entry does not exist, the machine stops by name; no run reaches such a state (the model's choice:
notes/assumptions/7.md). -/
def Obligations.MissingEntryFaults : Prop :=
  ∀ (b : Byte) (s : State),
    (s.st = .readingData → 212 ≤ s.dcnt.toNat → exec (.rxData b) s = .fault .bufferIndexOutOfRange) ∧
    (s.st = .readingStatus → 6 ≤ s.scnt.toNat → exec (.rxStatus b) s = .fault .bufferIndexOutOfRange) ∧
    (s.st = .readingChecksum → 4 ≤ s.ccnt.toNat → exec (.rxCksum b) s = .fault .bufferIndexOutOfRange) ∧
    (s.st = .expectTerminator → 212 < s.nlen.toNat → exec .rxTermOk s = .fault .bufferIndexOutOfRange)

/-! ### FrameDecoder, laws -/

/-- R241 and R242: wherever a byte brings the decoder into FAULTED, the transaction wrote `FAULT_KIND` and `ST`, emitted
`EvFault`, and left every other register as it was; and `EvFault` is emitted nowhere else. -/
def Obligations.FramingFaultIsPrecise : Prop :=
  ∀ (i : Instr) (s t : State), exec i s = .next t →
    (s.st ≠ .faulted → t.st = .faulted →
      ∃ k : FaultKind, k ≠ .none ∧ t = { s with faultKind := k, st := .faulted, out := .fault k }) ∧
    (∀ k : FaultKind, t.out = .fault k → s.st ≠ .faulted ∧ t.st = .faulted ∧ t.faultKind = k)

/-- R243: in FAULTED every RX_BYTE is dropped; the state is left by RESET and DEC_CLEAR alone, keeps the first kind, and
raises no second fault; the transactions that do not read decoder state still work. -/
def Obligations.FaultedIsSticky : Prop :=
  ∀ (i : Instr) (s : State), s.st = .faulted →
    (∀ b, i.rxOperand = some b → exec i s = .next { s with out := .quiet }) ∧
    (i ≠ .reset → i ≠ .decClear → ∃ t, exec i s = .next t ∧ t.st = .faulted ∧ t.faultKind = s.faultKind ∧
      ∀ k, t.out ≠ .fault k) ∧
    (i = .reset ∨ i = .decClear → ∃ t, exec i s = .next t ∧ t.st = .idle ∧ t.faultKind = .none) ∧
    (i.encoderSide = true → ∀ u : State, u.seqctr = s.seqctr →
      ∃ t v, exec i s = .next t ∧ exec i u = .next v ∧ t.out = v.out ∧ t.seqctr = v.seqctr)

/-- R61: the encoder side and the decoder side share no state, so the order of one transaction of each side changes no
result: each gives the same output in either order, and the registers end the same. -/
def Obligations.SidesCommute : Prop :=
  ∀ (i j : Instr) (s u v : State), i.encoderSide = true → j.decoderSide = true →
    exec j s = .next u → exec i u = .next v →
    ∃ u' v' : State, exec i s = .next u' ∧ exec j u' = .next v' ∧ u'.out = v.out ∧ v'.out = u.out ∧
      { v' with out := .quiet } = { v with out := .quiet }

/-- R172: in the five transparent states the byte does not choose the next state, and no event is emitted; in
READING_LENGTH each of the six control values raises FK_NEG_LENGTH. -/
def Obligations.TransparentStates : Prop :=
  ∀ (b c : Byte) (s t u : State),
    (s.st = .readingSequence ∨ s.st = .readingCommand ∨ s.st = .readingData ∨ s.st = .readingStatus ∨
      s.st = .readingChecksum → exec (.rxByte b) s = .next t → exec (.rxByte c) s = .next u →
      t.st = u.st ∧ t.st ≠ .faulted ∧ t.out = .quiet) ∧
    (s.st = .readingLength → b ∈ [0x01, 0x03, 0x04, 0x05, 0x15, 0x16] → exec (.rxByte b) s =
      .next { s with faultKind := .negLength, st := .faulted, out := .fault .negLength })

/-- R171: each byte of a frame that does not fault raises `Next(ST)` by exactly 1 or ends the frame; the length byte is
at position 1; and the delimiter, postamble and terminator are checked at `L − 0x20 − 7`, `L − 0x20` and
`(L − 0x20) + 5`. The invariant rules out the states no run reaches. -/
def Obligations.PositionalArithmetic : Prop :=
  (∀ (b : Byte) (s t : State) (p : Nat), s.inv = true → s.nextPosition = some p → exec (.rxByte b) s = .next t →
    t.st = .faulted ∨ (s.st = .expectTerminator ∧ t.st = .idle) ∨ t.nextPosition = some (p + 1)) ∧
  (∀ s t : State, s.st = .idle → exec .rxIdlePreamble s = .next t → t.nextPosition = some 1) ∧
  (∀ s : State, s.inv = true →
    (s.st = .expectDelimiter → s.nextPosition = some (s.len.toNat - 0x20 - 7)) ∧
    (s.st = .expectPostamble → s.nextPosition = some (s.len.toNat - 0x20)) ∧
    (s.st = .expectTerminator → s.nextPosition = some (s.len.toNat - 0x20 + 5) ∧
      s.nlen.toNat = s.len.toNat - 0x20 - 11))

/-- R176: from IDLE, the bytes of a well-formed inbound frame take exactly `17 + N` transactions, emit nothing before
the last and the frame's record on the last, and end in IDLE; a frame cut off emits nothing, and RESET,
DEC_CLEAR or a fault then discards it. -/
def Obligations.WellFormedFrame : Prop :=
  ∀ (f : InboundFrame) (s : State), f.fits = true → s.st = .idle →
    (∃ t : State, observe (17 + f.data.length) (s.offer (f.bytes.map rxPorts)) =
        .next (List.replicate (16 + f.data.length) .quiet ++ [.frame f.record], t) ∧
      t.st = .idle ∧ t.inputs = s.inputs ∧ t.seqctr = s.seqctr ∧ t.faultKind = s.faultKind) ∧
    (∀ k, k ≤ 16 + f.data.length → ∃ t : State,
      observe k (s.offer (f.bytes.map rxPorts)) = .next (List.replicate k .quiet, t) ∧
      (∀ i, i = .reset ∨ i = .decClear → ∃ u, exec i t = .next u ∧ u.st = .idle ∧ u.out = .quiet) ∧
      ∀ b u, exec (.rxByte b) t = .next u → u.st = .faulted → u.frameOut = none)

/-- R177: a well-formed frame with the delimiter, the postamble or the terminator changed to any other value raises the
fault of that position on that byte, and no byte of it emits a frame. A change to a transparent byte is not detected:
the changed bytes are decoded as the frame they now are. -/
def Obligations.CorruptedFrame : Prop :=
  ∀ (f : InboundFrame) (b : Byte) (s : State) (pos : Nat), f.fits = true → s.st = .idle →
    (∀ k : FaultKind, (pos = 4 + f.data.length ∧ k = .delimiter ∧ b ≠ 0x04 ∨
        pos = 11 + f.data.length ∧ k = .postamble ∧ b ≠ 0x05 ∨
        pos = 16 + f.data.length ∧ k = .terminator ∧ b ≠ 0x03) →
      ∃ t : State, observe (17 + f.data.length) (s.offer ((f.bytes.set pos b).map rxPorts)) =
          .next (List.replicate pos .quiet ++ [.fault k] ++ List.replicate (16 + f.data.length - pos) .quiet, t) ∧
        t.st = .faulted ∧ t.faultKind = k) ∧
    (2 ≤ pos ∧ pos < 4 + f.data.length ∨ 5 + f.data.length ≤ pos ∧ pos < 11 + f.data.length ∨
        12 + f.data.length ≤ pos ∧ pos < 16 + f.data.length →
      ∃ (g : InboundFrame) (t : State), g.bytes = f.bytes.set pos b ∧
        observe (17 + f.data.length) (s.offer ((f.bytes.set pos b).map rxPorts)) =
          .next (List.replicate (16 + f.data.length) .quiet ++ [.frame g.record], t) ∧ t.st = .idle)

/-- R175: frames back to back, with any NAK and SYN bytes before and between them: the frames emitted are exactly those
sent, in the order they arrive. -/
def Obligations.FramesBackToBack : Prop :=
  ∀ (l : List (List Byte × InboundFrame)) (s : State), s.st = .idle →
    (∀ x ∈ l, x.2.fits = true ∧ ∀ b ∈ x.1, b = 0x15 ∨ b = 0x16) →
    ∃ (os : List Output) (t : State),
      observe (l.flatMap fun x => x.1 ++ x.2.bytes).length
        (s.offer ((l.flatMap fun x => x.1 ++ x.2.bytes).map rxPorts)) = .next (os, t) ∧
      t.st = .idle ∧
      (os.filterMap fun o => match o with | .frame r => some r | _ => none) = l.map fun x => x.2.record

/-! ### Invariants -/

/-- The invariant (R22, R30, R35, R87 and the counts of R155 to R166) is kept by every step. -/
def Obligations.StepKeepsInvariant : Prop :=
  ∀ s t : State, s.inv = true → step s = .next t → t.inv = true

/-- Power-on meets the invariant. -/
def Obligations.PowerOnMeetsInvariant : Prop := State.reset.inv = true

/-- From a state that meets the invariant every step completes: no fault and no refusal of the model is reached,
whatever the host offers. -/
def Obligations.StepNeverStops : Prop :=
  ∀ s : State, s.inv = true → ∃ t : State, step s = .next t

/-! ### StatusDecoder -/

/-- R201 and R203 to R207: STATUS_DECODE's fault group 1; with its frame: no register changes. -/
def Obligations.FatalFaultGroup : Prop :=
  ∀ (s0 s1 s2 s3 s4 s5 : Byte) (s : State), ∃ r : StatusResult,
    exec (.statusDecode s0 s1 s2 s3 s4 s5) s = .next { s with out := .status r } ∧
    (r.gFatal = true ↔ s0[5] = true) ∧
    (.invalidCommand ∈ r.faultSet ↔ s0[5] = true ∧ s0[1] = true) ∧
    (.syntaxError ∈ r.faultSet ↔ s0[5] = true ∧ s0[0] = true) ∧
    (.notAllowedInMode ∈ r.faultSet ↔ s0[5] = true ∧ s1[1] = true) ∧
    (.arithOverflow ∈ r.faultSet ↔ s0[5] = true ∧ s1[0] = true) ∧
    (.outOfPaper ∈ r.faultSet ↔ s0[5] = true ∧ s2[0] = true)

/-- R202, R208 to R210 and R211: STATUS_DECODE's fault group 2 and the error summary. -/
def Obligations.FiscalMemoryFaultGroup : Prop :=
  ∀ (s0 s1 s2 s3 s4 s5 : Byte) (s : State), ∃ r : StatusResult,
    exec (.statusDecode s0 s1 s2 s3 s4 s5) s = .next { s with out := .status r } ∧
    (r.gFm = true ↔ s4[5] = true) ∧
    (.fmWriteError ∈ r.faultSet ↔ s4[5] = true ∧ s4[0] = true) ∧
    (.fmFull ∈ r.faultSet ↔ s4[5] = true ∧ s4[4] = true) ∧
    (.fmReadOnly ∈ r.faultSet ↔ s4[5] = true ∧ s5[0] = true) ∧
    (r.isError = true ↔ s0[5] = true ∨ s4[5] = true)

/-- R212 to R221: STATUS_DECODE's conditions. -/
def Obligations.AdvisoryConditions : Prop :=
  ∀ (s0 s1 s2 s3 s4 s5 : Byte) (s : State), ∃ r : StatusResult,
    exec (.statusDecode s0 s1 s2 s3 s4 s5) s = .next { s with out := .status r } ∧
    (.displayDisconnected ∈ r.condSet ↔ s0[3] = true) ∧
    (.datetimeNotSet ∈ r.condSet ↔ s0[2] = true) ∧
    (.fmLowBlocks ∈ r.condSet ↔ s4[3] = true) ∧
    (.ibfm ∈ r.condSet ↔ s4[2] = true) ∧
    (.pib ∈ r.condSet ↔ s4[1] = true) ∧
    (.nonfiscalReceiptOpen ∈ r.condSet ↔ s2[5] = true) ∧
    (.fiscalReceiptOpen ∈ r.condSet ↔ s2[3] = true) ∧
    (.taxGroupsSet ∈ r.condSet ↔ s5[4] = true) ∧
    (.fiscalMode ∈ r.condSet ↔ s5[3] = true) ∧
    (.fmFormatted ∈ r.condSet ↔ s5[1] = true)

/-- R222: the 21 bits of `sd_out` after a STATUS_DECODE, and of `frame_dec` after the terminator of a frame, each tied
to the result it packs: the answer of the transaction, and the `statuses` of the frame's record. -/
def Obligations.StatusPacking : Prop :=
  (∀ (s0 s1 s2 s3 s4 s5 : Byte) (s : State), ∃ (t : State) (r : StatusResult) (w : BitVec 21),
    exec (.statusDecode s0 s1 s2 s3 s4 s5) s = .next t ∧ t.out = .status r ∧
    r = statusDecode #v[s0, s1, s2, s3, s4, s5] ∧ t.sdOut = some w ∧ r.laidOut w) ∧
  (∀ s : State, s.st = .expectTerminator → s.nlen.toNat ≤ 212 →
    ∃ (t : State) (r : FrameRec) (w : BitVec 21),
      exec (.rxByte 0x03) s = .next t ∧ exec .rxTermOk s = .next t ∧ t.frameOut = some r ∧
      r.statuses = statusDecode s.status ∧ t.frameDec = some w ∧ r.statuses.laidOut w)

/-- R81 and R223: the 28 unused bits, all of byte3 among them, change no output; byte1 changes no condition; a gate
changes its own group's fault codes, its own gate bit and `is_error`, and never the conditions; and every combination of
faults and conditions occurs. -/
def Obligations.StatusIndependence : Prop :=
  (∀ (b₁ b₂ : Vector Byte 6), b₁[0] &&& 0x2F = b₂[0] &&& 0x2F → b₁[1] &&& 0x03 = b₂[1] &&& 0x03 →
    b₁[2] &&& 0x29 = b₂[2] &&& 0x29 → b₁[4] &&& 0x3F = b₂[4] &&& 0x3F → b₁[5] &&& 0x1B = b₂[5] &&& 0x1B →
    statusDecode b₁ = statusDecode b₂) ∧
  (∀ (s0 s1 s2 s3 s4 s5 w x y z : Byte), x &&& 0xDF = s0 &&& 0xDF → y &&& 0xDF = s4 &&& 0xDF →
    (statusDecode #v[x, w, s2, z, y, s5]).condSet = (statusDecode #v[s0, s1, s2, s3, s4, s5]).condSet ∧
    (statusDecode #v[s0, s1, s2, z, s4, s5]).faultSet = (statusDecode #v[s0, s1, s2, s3, s4, s5]).faultSet ∧
    (statusDecode #v[x, s1, s2, s3, s4, s5]).gFm = (statusDecode #v[s0, s1, s2, s3, s4, s5]).gFm ∧
    (statusDecode #v[s0, s1, s2, s3, y, s5]).gFatal = (statusDecode #v[s0, s1, s2, s3, s4, s5]).gFatal ∧
    (∀ k ∈ [DeviceFault.fmWriteError, .fmFull, .fmReadOnly],
      k ∈ (statusDecode #v[x, s1, s2, s3, s4, s5]).faultSet ↔ k ∈ (statusDecode #v[s0, s1, s2, s3, s4, s5]).faultSet) ∧
    (∀ k ∈ [DeviceFault.invalidCommand, .syntaxError, .notAllowedInMode, .arithOverflow, .outOfPaper],
      k ∈ (statusDecode #v[s0, s1, s2, s3, y, s5]).faultSet ↔ k ∈ (statusDecode #v[s0, s1, s2, s3, s4, s5]).faultSet)) ∧
  (∀ (p : DeviceFault → Bool) (q : Condition → Bool), ∃ b : Vector Byte 6,
    (∀ k, k ∈ (statusDecode b).faultSet ↔ p k = true) ∧ (∀ c, c ∈ (statusDecode b).condSet ↔ q c = true))

/-- R224: a code bit without its gate gives no fault and no error; a gate without a code bit gives an error and no
fault. -/
def Obligations.GateAndCodesApart : Prop :=
  ∀ (s0 s1 s2 s3 s4 s5 : Byte),
    (s0[5] = false → s4[5] = false → (statusDecode #v[s0, s1, s2, s3, s4, s5]).faultSet = [] ∧
      (statusDecode #v[s0, s1, s2, s3, s4, s5]).isError = false) ∧
    (s0[5] = true → s0 &&& 0x03 = 0 → s1 &&& 0x03 = 0 → s2 &&& 0x01 = 0 →
      (statusDecode #v[s0, s1, s2, s3, s4, s5]).isError = true ∧
      ∀ k ∈ [DeviceFault.invalidCommand, .syntaxError, .notAllowedInMode, .arithOverflow, .outOfPaper],
        k ∉ (statusDecode #v[s0, s1, s2, s3, s4, s5]).faultSet) ∧
    (s4[5] = true → s4 &&& 0x11 = 0 → s5 &&& 0x01 = 0 →
      (statusDecode #v[s0, s1, s2, s3, s4, s5]).isError = true ∧
      ∀ k ∈ [DeviceFault.fmWriteError, .fmFull, .fmReadOnly],
        k ∉ (statusDecode #v[s0, s1, s2, s3, s4, s5]).faultSet)
end

