-- ==== Sys2Proof/Laws/Decode.lean ====
section
/-! SUPPORT. The payload ports give back the payload, and each `op` value selects its transaction. -/

namespace Sys2Proof

theorem length_payloadOf (n : Byte) (d : Vector Byte 219) : (payloadOf n d).length = n.toNat := by
  have := n.isLt
  simp [payloadOf]; omega

theorem getElem?_payloadOf (n : Byte) (d : Vector Byte 219) {k : Nat} (h : k < n.toNat) (h' : k < 219) :
    (payloadOf n d)[k]? = some d[k] := by
  simp [payloadOf, h, List.getElem?_append, h']

theorem payloadFits_iff (data : List Byte) :
    payloadFits data = true ↔ data.length ≤ 255 ∧ ∀ b ∈ data.drop 219, b = 0 := by
  simp [payloadFits]

/-- The length on `n_in`, as a number. -/
theorem payloadLen_toNat (data : List Byte) : (payloadLen data).toNat = min data.length 255 := by
  rw [payloadLen, BitVec.toNat_ofNat]; exact Nat.mod_eq_of_lt (by omega)

/-- A payload the ports can carry comes back from them whole. -/
theorem payloadOf_payloadPort {data : List Byte} (h : payloadFits data = true) :
    payloadOf (payloadLen data) (payloadPort data) = data := by
  rw [payloadFits_iff] at h
  have hl := h.1; have hz := h.2
  have hn : (payloadLen data).toNat = data.length := by rw [payloadLen_toNat]; omega
  apply List.ext_getElem?
  intro k
  by_cases hk : k < data.length
  · by_cases hk' : k < 219
    · rw [getElem?_payloadOf _ _ (by omega) hk']
      simp [payloadPort, hk]
    · have hmem : data[k] ∈ data.drop 219 := by
        apply List.mem_of_getElem? (i := k - 219)
        rw [List.getElem?_drop, show 219 + (k - 219) = k by omega, List.getElem?_eq_getElem hk]
      have hd := hz _ hmem
      simp only [payloadOf, hn, List.getElem?_take, hk, if_true]
      rw [List.getElem?_append_right (by simp; omega), List.getElem?_replicate, List.getElem?_eq_getElem hk, hd]
      simp; omega
  · rw [List.getElem?_eq_none (by rw [length_payloadOf]; omega), List.getElem?_eq_none (by omega)]

/-- A payload too long for the ports is still one of more than 219 bytes when it comes back. -/
theorem length_payloadOf_of_long {data : List Byte} (h : 219 < data.length) :
    219 < (payloadOf (payloadLen data) (payloadPort data)).length := by
  rw [length_payloadOf, payloadLen_toNat]; omega

theorem decode_of_rst {p : Ports} (h : p.rst = true) : decode p = .reset := by simp [decode, h]

/-- An RX_BYTE's ports decode to it. -/
@[simp] theorem decode_rxPorts (b : Byte) : decode (rxPorts b) = .rxByte b := by
  simp [decode, rxPorts, Ports.null, opRxByte]

@[simp] theorem decode_null : decode Ports.null = .nop := by simp [decode, Ports.null]

@[simp] theorem decodeIn_rxPorts (st : DecState) (b : Byte) : decodeIn st (rxPorts b) = rxRow st b := by
  simp [decodeIn]

end Sys2Proof
end

