-- ==== Sys2Proof/Laws/State.lean ====
section
/-! SUPPORT. One lemma per field and update of `State`: what each named operation writes, and that it leaves the rest. -/

namespace Sys2Proof.Machine

open Sys2Proof

/-! `State.emit` -/

@[simp] theorem State.emit_seqctr (o : Output) (s : State) : (s.emit o).seqctr = s.seqctr := rfl
@[simp] theorem State.emit_st (o : Output) (s : State) : (s.emit o).st = s.st := rfl
@[simp] theorem State.emit_len (o : Output) (s : State) : (s.emit o).len = s.len := rfl
@[simp] theorem State.emit_nlen (o : Output) (s : State) : (s.emit o).nlen = s.nlen := rfl
@[simp] theorem State.emit_seq (o : Output) (s : State) : (s.emit o).seq = s.seq := rfl
@[simp] theorem State.emit_cmd (o : Output) (s : State) : (s.emit o).cmd = s.cmd := rfl
@[simp] theorem State.emit_data (o : Output) (s : State) : (s.emit o).data = s.data := rfl
@[simp] theorem State.emit_dcnt (o : Output) (s : State) : (s.emit o).dcnt = s.dcnt := rfl
@[simp] theorem State.emit_status (o : Output) (s : State) : (s.emit o).status = s.status := rfl
@[simp] theorem State.emit_scnt (o : Output) (s : State) : (s.emit o).scnt = s.scnt := rfl
@[simp] theorem State.emit_cksum (o : Output) (s : State) : (s.emit o).cksum = s.cksum := rfl
@[simp] theorem State.emit_ccnt (o : Output) (s : State) : (s.emit o).ccnt = s.ccnt := rfl
@[simp] theorem State.emit_faultKind (o : Output) (s : State) : (s.emit o).faultKind = s.faultKind := rfl
@[simp] theorem State.emit_out (o : Output) (s : State) : (s.emit o).out = o := rfl
@[simp] theorem State.emit_inputs (o : Output) (s : State) : (s.emit o).inputs = s.inputs := rfl
@[simp] theorem State.emit_free (o : Output) (s : State) : (s.emit o).free = s.free := rfl

/-! `State.goto` -/

@[simp] theorem State.goto_seqctr (d : DecState) (s : State) : (s.goto d).seqctr = s.seqctr := rfl
@[simp] theorem State.goto_st (d : DecState) (s : State) : (s.goto d).st = d := rfl
@[simp] theorem State.goto_len (d : DecState) (s : State) : (s.goto d).len = s.len := rfl
@[simp] theorem State.goto_nlen (d : DecState) (s : State) : (s.goto d).nlen = s.nlen := rfl
@[simp] theorem State.goto_seq (d : DecState) (s : State) : (s.goto d).seq = s.seq := rfl
@[simp] theorem State.goto_cmd (d : DecState) (s : State) : (s.goto d).cmd = s.cmd := rfl
@[simp] theorem State.goto_data (d : DecState) (s : State) : (s.goto d).data = s.data := rfl
@[simp] theorem State.goto_dcnt (d : DecState) (s : State) : (s.goto d).dcnt = s.dcnt := rfl
@[simp] theorem State.goto_status (d : DecState) (s : State) : (s.goto d).status = s.status := rfl
@[simp] theorem State.goto_scnt (d : DecState) (s : State) : (s.goto d).scnt = s.scnt := rfl
@[simp] theorem State.goto_cksum (d : DecState) (s : State) : (s.goto d).cksum = s.cksum := rfl
@[simp] theorem State.goto_ccnt (d : DecState) (s : State) : (s.goto d).ccnt = s.ccnt := rfl
@[simp] theorem State.goto_faultKind (d : DecState) (s : State) : (s.goto d).faultKind = s.faultKind := rfl
@[simp] theorem State.goto_out (d : DecState) (s : State) : (s.goto d).out = s.out := rfl
@[simp] theorem State.goto_inputs (d : DecState) (s : State) : (s.goto d).inputs = s.inputs := rfl
@[simp] theorem State.goto_free (d : DecState) (s : State) : (s.goto d).free = s.free := rfl

/-! `State.answerErr` -/

@[simp] theorem State.answerErr_seqctr (e : ErrCode) (s : State) : (s.answerErr e).seqctr = s.seqctr := rfl
@[simp] theorem State.answerErr_st (e : ErrCode) (s : State) : (s.answerErr e).st = s.st := rfl
@[simp] theorem State.answerErr_len (e : ErrCode) (s : State) : (s.answerErr e).len = s.len := rfl
@[simp] theorem State.answerErr_nlen (e : ErrCode) (s : State) : (s.answerErr e).nlen = s.nlen := rfl
@[simp] theorem State.answerErr_seq (e : ErrCode) (s : State) : (s.answerErr e).seq = s.seq := rfl
@[simp] theorem State.answerErr_cmd (e : ErrCode) (s : State) : (s.answerErr e).cmd = s.cmd := rfl
@[simp] theorem State.answerErr_data (e : ErrCode) (s : State) : (s.answerErr e).data = s.data := rfl
@[simp] theorem State.answerErr_dcnt (e : ErrCode) (s : State) : (s.answerErr e).dcnt = s.dcnt := rfl
@[simp] theorem State.answerErr_status (e : ErrCode) (s : State) : (s.answerErr e).status = s.status := rfl
@[simp] theorem State.answerErr_scnt (e : ErrCode) (s : State) : (s.answerErr e).scnt = s.scnt := rfl
@[simp] theorem State.answerErr_cksum (e : ErrCode) (s : State) : (s.answerErr e).cksum = s.cksum := rfl
@[simp] theorem State.answerErr_ccnt (e : ErrCode) (s : State) : (s.answerErr e).ccnt = s.ccnt := rfl
@[simp] theorem State.answerErr_faultKind (e : ErrCode) (s : State) : (s.answerErr e).faultKind = s.faultKind := rfl
@[simp] theorem State.answerErr_out (e : ErrCode) (s : State) : (s.answerErr e).out = .err e := rfl
@[simp] theorem State.answerErr_inputs (e : ErrCode) (s : State) : (s.answerErr e).inputs = s.inputs := rfl
@[simp] theorem State.answerErr_free (e : ErrCode) (s : State) : (s.answerErr e).free = s.free := rfl

/-! `State.raiseFramingFault` -/

@[simp] theorem State.raiseFramingFault_seqctr (k : FaultKind) (s : State) : (s.raiseFramingFault k).seqctr = s.seqctr := rfl
@[simp] theorem State.raiseFramingFault_st (k : FaultKind) (s : State) : (s.raiseFramingFault k).st = .faulted := rfl
@[simp] theorem State.raiseFramingFault_len (k : FaultKind) (s : State) : (s.raiseFramingFault k).len = s.len := rfl
@[simp] theorem State.raiseFramingFault_nlen (k : FaultKind) (s : State) : (s.raiseFramingFault k).nlen = s.nlen := rfl
@[simp] theorem State.raiseFramingFault_seq (k : FaultKind) (s : State) : (s.raiseFramingFault k).seq = s.seq := rfl
@[simp] theorem State.raiseFramingFault_cmd (k : FaultKind) (s : State) : (s.raiseFramingFault k).cmd = s.cmd := rfl
@[simp] theorem State.raiseFramingFault_data (k : FaultKind) (s : State) : (s.raiseFramingFault k).data = s.data := rfl
@[simp] theorem State.raiseFramingFault_dcnt (k : FaultKind) (s : State) : (s.raiseFramingFault k).dcnt = s.dcnt := rfl
@[simp] theorem State.raiseFramingFault_status (k : FaultKind) (s : State) : (s.raiseFramingFault k).status = s.status := rfl
@[simp] theorem State.raiseFramingFault_scnt (k : FaultKind) (s : State) : (s.raiseFramingFault k).scnt = s.scnt := rfl
@[simp] theorem State.raiseFramingFault_cksum (k : FaultKind) (s : State) : (s.raiseFramingFault k).cksum = s.cksum := rfl
@[simp] theorem State.raiseFramingFault_ccnt (k : FaultKind) (s : State) : (s.raiseFramingFault k).ccnt = s.ccnt := rfl
@[simp] theorem State.raiseFramingFault_faultKind (k : FaultKind) (s : State) : (s.raiseFramingFault k).faultKind = k := rfl
@[simp] theorem State.raiseFramingFault_out (k : FaultKind) (s : State) : (s.raiseFramingFault k).out = .fault k := rfl
@[simp] theorem State.raiseFramingFault_inputs (k : FaultKind) (s : State) : (s.raiseFramingFault k).inputs = s.inputs := rfl
@[simp] theorem State.raiseFramingFault_free (k : FaultKind) (s : State) : (s.raiseFramingFault k).free = s.free := rfl

/-! `State.clearDecoder` -/

@[simp] theorem State.clearDecoder_seqctr (s : State) : (s.clearDecoder).seqctr = s.seqctr := rfl
@[simp] theorem State.clearDecoder_st (s : State) : (s.clearDecoder).st = .idle := rfl
@[simp] theorem State.clearDecoder_len (s : State) : (s.clearDecoder).len = s.len := rfl
@[simp] theorem State.clearDecoder_nlen (s : State) : (s.clearDecoder).nlen = s.nlen := rfl
@[simp] theorem State.clearDecoder_seq (s : State) : (s.clearDecoder).seq = s.seq := rfl
@[simp] theorem State.clearDecoder_cmd (s : State) : (s.clearDecoder).cmd = s.cmd := rfl
@[simp] theorem State.clearDecoder_data (s : State) : (s.clearDecoder).data = s.data := rfl
@[simp] theorem State.clearDecoder_dcnt (s : State) : (s.clearDecoder).dcnt = 0 := rfl
@[simp] theorem State.clearDecoder_status (s : State) : (s.clearDecoder).status = s.status := rfl
@[simp] theorem State.clearDecoder_scnt (s : State) : (s.clearDecoder).scnt = 0 := rfl
@[simp] theorem State.clearDecoder_cksum (s : State) : (s.clearDecoder).cksum = s.cksum := rfl
@[simp] theorem State.clearDecoder_ccnt (s : State) : (s.clearDecoder).ccnt = 0 := rfl
@[simp] theorem State.clearDecoder_faultKind (s : State) : (s.clearDecoder).faultKind = .none := rfl
@[simp] theorem State.clearDecoder_out (s : State) : (s.clearDecoder).out = s.out := rfl
@[simp] theorem State.clearDecoder_inputs (s : State) : (s.clearDecoder).inputs = s.inputs := rfl
@[simp] theorem State.clearDecoder_free (s : State) : (s.clearDecoder).free = s.free := rfl

/-! `State.drawUnspecified` -/

@[simp] theorem State.drawUnspecified_seqctr (s : State) : (s.drawUnspecified).seqctr = s.seqctr := rfl
@[simp] theorem State.drawUnspecified_st (s : State) : (s.drawUnspecified).st = s.st := rfl
@[simp] theorem State.drawUnspecified_len (s : State) : (s.drawUnspecified).len = Config.freeByte s.free := rfl
@[simp] theorem State.drawUnspecified_nlen (s : State) : (s.drawUnspecified).nlen = Config.freeByte (s.free + 1) := rfl
@[simp] theorem State.drawUnspecified_seq (s : State) : (s.drawUnspecified).seq = Config.freeByte (s.free + 2) := rfl
@[simp] theorem State.drawUnspecified_cmd (s : State) : (s.drawUnspecified).cmd = Config.freeByte (s.free + 3) := rfl
@[simp] theorem State.drawUnspecified_data (s : State) : (s.drawUnspecified).data = Vector.ofFn fun i => Config.freeByte (s.free + 4 + i.val) := rfl
@[simp] theorem State.drawUnspecified_dcnt (s : State) : (s.drawUnspecified).dcnt = s.dcnt := rfl
@[simp] theorem State.drawUnspecified_status (s : State) : (s.drawUnspecified).status = Vector.ofFn fun i => Config.freeByte (s.free + 216 + i.val) := rfl
@[simp] theorem State.drawUnspecified_scnt (s : State) : (s.drawUnspecified).scnt = s.scnt := rfl
@[simp] theorem State.drawUnspecified_cksum (s : State) : (s.drawUnspecified).cksum = Vector.ofFn fun i => Config.freeByte (s.free + 222 + i.val) := rfl
@[simp] theorem State.drawUnspecified_ccnt (s : State) : (s.drawUnspecified).ccnt = s.ccnt := rfl
@[simp] theorem State.drawUnspecified_faultKind (s : State) : (s.drawUnspecified).faultKind = s.faultKind := rfl
@[simp] theorem State.drawUnspecified_out (s : State) : (s.drawUnspecified).out = s.out := rfl
@[simp] theorem State.drawUnspecified_inputs (s : State) : (s.drawUnspecified).inputs = s.inputs := rfl
@[simp] theorem State.drawUnspecified_free (s : State) : (s.drawUnspecified).free = s.free + resetDraws := rfl

/-! `State.startFrame` -/

@[simp] theorem State.startFrame_seqctr (b : Byte) (s : State) : (s.startFrame b).seqctr = s.seqctr := rfl
@[simp] theorem State.startFrame_st (b : Byte) (s : State) : (s.startFrame b).st = s.st := rfl
@[simp] theorem State.startFrame_len (b : Byte) (s : State) : (s.startFrame b).len = b := rfl
@[simp] theorem State.startFrame_nlen (b : Byte) (s : State) : (s.startFrame b).nlen = BitVec.ofNat 8 (b.toNat - Config.lenBiasIn) := rfl
@[simp] theorem State.startFrame_seq (b : Byte) (s : State) : (s.startFrame b).seq = s.seq := rfl
@[simp] theorem State.startFrame_cmd (b : Byte) (s : State) : (s.startFrame b).cmd = s.cmd := rfl
@[simp] theorem State.startFrame_data (b : Byte) (s : State) : (s.startFrame b).data = s.data := rfl
@[simp] theorem State.startFrame_dcnt (b : Byte) (s : State) : (s.startFrame b).dcnt = 0 := rfl
@[simp] theorem State.startFrame_status (b : Byte) (s : State) : (s.startFrame b).status = s.status := rfl
@[simp] theorem State.startFrame_scnt (b : Byte) (s : State) : (s.startFrame b).scnt = 0 := rfl
@[simp] theorem State.startFrame_cksum (b : Byte) (s : State) : (s.startFrame b).cksum = s.cksum := rfl
@[simp] theorem State.startFrame_ccnt (b : Byte) (s : State) : (s.startFrame b).ccnt = 0 := rfl
@[simp] theorem State.startFrame_faultKind (b : Byte) (s : State) : (s.startFrame b).faultKind = s.faultKind := rfl
@[simp] theorem State.startFrame_out (b : Byte) (s : State) : (s.startFrame b).out = s.out := rfl
@[simp] theorem State.startFrame_inputs (b : Byte) (s : State) : (s.startFrame b).inputs = s.inputs := rfl
@[simp] theorem State.startFrame_free (b : Byte) (s : State) : (s.startFrame b).free = s.free := rfl

/-! `State.pushData` -/

@[simp] theorem State.pushData_seqctr (b : Byte) (s : State) : (s.pushData b).seqctr = s.seqctr := rfl
@[simp] theorem State.pushData_st (b : Byte) (s : State) : (s.pushData b).st = s.st := rfl
@[simp] theorem State.pushData_len (b : Byte) (s : State) : (s.pushData b).len = s.len := rfl
@[simp] theorem State.pushData_nlen (b : Byte) (s : State) : (s.pushData b).nlen = s.nlen := rfl
@[simp] theorem State.pushData_seq (b : Byte) (s : State) : (s.pushData b).seq = s.seq := rfl
@[simp] theorem State.pushData_cmd (b : Byte) (s : State) : (s.pushData b).cmd = s.cmd := rfl
@[simp] theorem State.pushData_data (b : Byte) (s : State) : (s.pushData b).data = s.data.setIfInBounds s.dcnt.toNat b := rfl
@[simp] theorem State.pushData_dcnt (b : Byte) (s : State) : (s.pushData b).dcnt = s.dcnt + 1 := rfl
@[simp] theorem State.pushData_status (b : Byte) (s : State) : (s.pushData b).status = s.status := rfl
@[simp] theorem State.pushData_scnt (b : Byte) (s : State) : (s.pushData b).scnt = s.scnt := rfl
@[simp] theorem State.pushData_cksum (b : Byte) (s : State) : (s.pushData b).cksum = s.cksum := rfl
@[simp] theorem State.pushData_ccnt (b : Byte) (s : State) : (s.pushData b).ccnt = s.ccnt := rfl
@[simp] theorem State.pushData_faultKind (b : Byte) (s : State) : (s.pushData b).faultKind = s.faultKind := rfl
@[simp] theorem State.pushData_out (b : Byte) (s : State) : (s.pushData b).out = s.out := rfl
@[simp] theorem State.pushData_inputs (b : Byte) (s : State) : (s.pushData b).inputs = s.inputs := rfl
@[simp] theorem State.pushData_free (b : Byte) (s : State) : (s.pushData b).free = s.free := rfl

/-! `State.pushStatus` -/

@[simp] theorem State.pushStatus_seqctr (b : Byte) (s : State) : (s.pushStatus b).seqctr = s.seqctr := rfl
@[simp] theorem State.pushStatus_st (b : Byte) (s : State) : (s.pushStatus b).st = s.st := rfl
@[simp] theorem State.pushStatus_len (b : Byte) (s : State) : (s.pushStatus b).len = s.len := rfl
@[simp] theorem State.pushStatus_nlen (b : Byte) (s : State) : (s.pushStatus b).nlen = s.nlen := rfl
@[simp] theorem State.pushStatus_seq (b : Byte) (s : State) : (s.pushStatus b).seq = s.seq := rfl
@[simp] theorem State.pushStatus_cmd (b : Byte) (s : State) : (s.pushStatus b).cmd = s.cmd := rfl
@[simp] theorem State.pushStatus_data (b : Byte) (s : State) : (s.pushStatus b).data = s.data := rfl
@[simp] theorem State.pushStatus_dcnt (b : Byte) (s : State) : (s.pushStatus b).dcnt = s.dcnt := rfl
@[simp] theorem State.pushStatus_status (b : Byte) (s : State) : (s.pushStatus b).status = s.status.setIfInBounds s.scnt.toNat b := rfl
@[simp] theorem State.pushStatus_scnt (b : Byte) (s : State) : (s.pushStatus b).scnt = s.scnt + 1 := rfl
@[simp] theorem State.pushStatus_cksum (b : Byte) (s : State) : (s.pushStatus b).cksum = s.cksum := rfl
@[simp] theorem State.pushStatus_ccnt (b : Byte) (s : State) : (s.pushStatus b).ccnt = s.ccnt := rfl
@[simp] theorem State.pushStatus_faultKind (b : Byte) (s : State) : (s.pushStatus b).faultKind = s.faultKind := rfl
@[simp] theorem State.pushStatus_out (b : Byte) (s : State) : (s.pushStatus b).out = s.out := rfl
@[simp] theorem State.pushStatus_inputs (b : Byte) (s : State) : (s.pushStatus b).inputs = s.inputs := rfl
@[simp] theorem State.pushStatus_free (b : Byte) (s : State) : (s.pushStatus b).free = s.free := rfl

/-! `State.pushCksum` -/

@[simp] theorem State.pushCksum_seqctr (b : Byte) (s : State) : (s.pushCksum b).seqctr = s.seqctr := rfl
@[simp] theorem State.pushCksum_st (b : Byte) (s : State) : (s.pushCksum b).st = s.st := rfl
@[simp] theorem State.pushCksum_len (b : Byte) (s : State) : (s.pushCksum b).len = s.len := rfl
@[simp] theorem State.pushCksum_nlen (b : Byte) (s : State) : (s.pushCksum b).nlen = s.nlen := rfl
@[simp] theorem State.pushCksum_seq (b : Byte) (s : State) : (s.pushCksum b).seq = s.seq := rfl
@[simp] theorem State.pushCksum_cmd (b : Byte) (s : State) : (s.pushCksum b).cmd = s.cmd := rfl
@[simp] theorem State.pushCksum_data (b : Byte) (s : State) : (s.pushCksum b).data = s.data := rfl
@[simp] theorem State.pushCksum_dcnt (b : Byte) (s : State) : (s.pushCksum b).dcnt = s.dcnt := rfl
@[simp] theorem State.pushCksum_status (b : Byte) (s : State) : (s.pushCksum b).status = s.status := rfl
@[simp] theorem State.pushCksum_scnt (b : Byte) (s : State) : (s.pushCksum b).scnt = s.scnt := rfl
@[simp] theorem State.pushCksum_cksum (b : Byte) (s : State) : (s.pushCksum b).cksum = s.cksum.setIfInBounds s.ccnt.toNat b := rfl
@[simp] theorem State.pushCksum_ccnt (b : Byte) (s : State) : (s.pushCksum b).ccnt = s.ccnt + 1 := rfl
@[simp] theorem State.pushCksum_faultKind (b : Byte) (s : State) : (s.pushCksum b).faultKind = s.faultKind := rfl
@[simp] theorem State.pushCksum_out (b : Byte) (s : State) : (s.pushCksum b).out = s.out := rfl
@[simp] theorem State.pushCksum_inputs (b : Byte) (s : State) : (s.pushCksum b).inputs = s.inputs := rfl
@[simp] theorem State.pushCksum_free (b : Byte) (s : State) : (s.pushCksum b).free = s.free := rfl

/-! `State.offer` -/

@[simp] theorem State.offer_seqctr (ps : List Ports) (s : State) : (s.offer ps).seqctr = s.seqctr := rfl
@[simp] theorem State.offer_st (ps : List Ports) (s : State) : (s.offer ps).st = s.st := rfl
@[simp] theorem State.offer_len (ps : List Ports) (s : State) : (s.offer ps).len = s.len := rfl
@[simp] theorem State.offer_nlen (ps : List Ports) (s : State) : (s.offer ps).nlen = s.nlen := rfl
@[simp] theorem State.offer_seq (ps : List Ports) (s : State) : (s.offer ps).seq = s.seq := rfl
@[simp] theorem State.offer_cmd (ps : List Ports) (s : State) : (s.offer ps).cmd = s.cmd := rfl
@[simp] theorem State.offer_data (ps : List Ports) (s : State) : (s.offer ps).data = s.data := rfl
@[simp] theorem State.offer_dcnt (ps : List Ports) (s : State) : (s.offer ps).dcnt = s.dcnt := rfl
@[simp] theorem State.offer_status (ps : List Ports) (s : State) : (s.offer ps).status = s.status := rfl
@[simp] theorem State.offer_scnt (ps : List Ports) (s : State) : (s.offer ps).scnt = s.scnt := rfl
@[simp] theorem State.offer_cksum (ps : List Ports) (s : State) : (s.offer ps).cksum = s.cksum := rfl
@[simp] theorem State.offer_ccnt (ps : List Ports) (s : State) : (s.offer ps).ccnt = s.ccnt := rfl
@[simp] theorem State.offer_faultKind (ps : List Ports) (s : State) : (s.offer ps).faultKind = s.faultKind := rfl
@[simp] theorem State.offer_out (ps : List Ports) (s : State) : (s.offer ps).out = s.out := rfl
@[simp] theorem State.offer_inputs (ps : List Ports) (s : State) : (s.offer ps).inputs = ps ++ s.inputs := rfl
@[simp] theorem State.offer_free (ps : List Ports) (s : State) : (s.offer ps).free = s.free := rfl

end Sys2Proof.Machine
end

