-- ==== Sys2Proof/Laws/Exec.lean ====
section
/-! SUPPORT. What a transaction of each side can do, said once: the decoder side is RX_BYTE's choice of a rule or
DEC_CLEAR; the encoder side writes the sequence counter and the output and reads the counter alone. -/

namespace Sys2Proof.Machine

open Sys2Proof

/-- Whatever the state, a row of RX_BYTE is the rule that the state and the row's byte choose. -/
theorem exec_row {i : Instr} {b : Byte} (hr : i.isRow = true) (ho : i.rxOperand = some b) (s : State) :
    exec i s = rxByRule b s := by
  have h1 : Config.syn ≠ Config.nak := by decide
  have h2 : Config.preamble ≠ Config.nak := by decide
  have h3 : Config.preamble ≠ Config.syn := by decide
  cases i <;> simp [Instr.isRow, Instr.rxOperand] at hr ho <;> subst ho <;>
    simp only [exec, execRxIdleNak, execRxIdleSyn, execRxIdlePreamble, execRxIdleOther, execRxLenOk, execRxLenNeg,
      execRxSeq, execRxCmd, execRxData, execRxDelimOk, execRxDelimBad, execRxStatus, execRxPostOk, execRxPostBad,
      execRxCksum, execRxTermOk, execRxTermBad, execRxFaulted, execRxReservedState] <;>
    split <;> rename_i h <;>
    first
    | rfl
    | (simp [rxByRule, h]; done)
    | (simp [rxByRule, h, h1, h2, h3]; done)
    | (simp [rxByRule]; omega)
    | (simp [Instr.rowState] at h; obtain ⟨k, hk⟩ := h; simp [rxByRule, hk])

/-- A transaction of the decoder side other than DEC_CLEAR is RX_BYTE with some byte. -/
theorem exec_decoderSide {i : Instr} (h : i.decoderSide = true) (hc : i ≠ .decClear) :
    ∃ b, ∀ s, exec i s = rxByRule b s := by
  by_cases hr : i.isRow = true
  · obtain ⟨b, hb⟩ : ∃ b, i.rxOperand = some b := by cases i <;> simp_all [Instr.isRow, Instr.rxOperand]
    exact ⟨b, exec_row hr hb⟩
  · cases i <;> simp_all [Instr.isRow, Instr.decoderSide]
    exact ⟨_, fun s => rfl⟩

/-- A transaction of the encoder side always completes, writes `SEQCTR` and the output alone, raises no FramingFault,
and does the same in every state with the same `SEQCTR`. -/
theorem exec_encoderSide {i : Instr} (h : i.encoderSide = true) (s : State) :
    ∃ (v : Byte) (o : Output), (∀ k, o ≠ .fault k) ∧
      ∀ u : State, u.seqctr = s.seqctr → exec i u = .next { u with seqctr := v, out := o } := by
  cases i <;> simp [Instr.encoderSide] at h
  case nop => exact ⟨s.seqctr, .quiet, by simp, fun u hu => by simp [← hu]; rfl⟩
  case build cmd data =>
    by_cases hp : payloadOk data = true
    · exact ⟨nextSeq s.seqctr, .txFrame (outFrame s.seqctr cmd data), by simp,
        fun u hu => by simp [← hu, exec, execBuild, hp]; rfl⟩
    · exact ⟨s.seqctr, .err .beTooLong, by simp, fun u hu => by simp [← hu, exec, execBuild, hp]; rfl⟩
  case cksumCompute lb sq cmd data =>
    by_cases hp : payloadOk data = true
    · exact ⟨s.seqctr, .cksum (enc4 (bccSum lb sq cmd data)), by simp,
        fun u hu => by simp [← hu, exec, execCksumCompute, hp]; rfl⟩
    · exact ⟨s.seqctr, .err .ceTooLong, by simp, fun u hu => by simp [← hu, exec, execCksumCompute, hp]; rfl⟩
  case cksumDecode c0 c1 c2 c3 =>
    by_cases hp : (isDigit c0 && isDigit c1 && isDigit c2 && isDigit c3) = true
    · exact ⟨s.seqctr, .bcc (BitVec.ofNat 16 (dec4 c0 c1 c2 c3)), by simp,
        fun u hu => by simp only [← hu, exec, execCksumDecode, hp]; rfl⟩
    · exact ⟨s.seqctr, .err .ceBadDigit, by simp, fun u hu => by simp only [← hu, exec, execCksumDecode, hp]; rfl⟩
  case statusDecode s0 s1 s2 s3 s4 s5 =>
    exact ⟨s.seqctr, .status (statusDecode #v[s0, s1, s2, s3, s4, s5]), by simp, fun u hu => by simp [← hu]; rfl⟩
  case reservedOp => exact ⟨s.seqctr, .err .oeReserved, by simp, fun u hu => by simp [← hu]; rfl⟩

/-- Every instruction is RESET, DEC_CLEAR, of the encoder side, or RX_BYTE in one of its spellings. -/
theorem instr_sides (i : Instr) :
    i = .reset ∨ i = .decClear ∨ i.encoderSide = true ∨ (i.decoderSide = true ∧ i ≠ .decClear) := by
  cases i <;> simp [Instr.encoderSide, Instr.decoderSide]

end Sys2Proof.Machine
end

