-- ==== Sys2Proof/Laws/Flags.lean ====
section
/-! SUPPORT. The StatusDecoder's masks as bits, its sets by their defining tests, and the places of the packed result. -/

namespace Sys2Proof.Machine

open Sys2Proof

/-- The six masks the StatusDecoder tests, each as the bit it selects (0x01 to 0x20, spelled as `simp` leaves them). -/
theorem bit_eq_getElem (s : Byte) : bit s 1#8 = s[0] ∧ bit s 2#8 = s[1] ∧ bit s 4#8 = s[2] ∧ bit s 8#8 = s[3] ∧
    bit s 16#8 = s[4] ∧ bit s 32#8 = s[5] := by
  revert s; decide +kernel

theorem mem_faultSet (b : Vector Byte 6) (k : DeviceFault) :
    k ∈ (statusDecode b).faultSet ↔ faultHolds b k = true := by
  simp only [statusDecode, List.mem_filter]; cases k <;> simp [allFaults]

theorem mem_condSet (b : Vector Byte 6) (k : Condition) :
    k ∈ (statusDecode b).condSet ↔ condHolds b k = true := by
  simp only [statusDecode, List.mem_filter]; cases k <;> simp [allConditions]

theorem getLsbD_faultBits (l : List DeviceFault) (k : DeviceFault) :
    (faultBits l).getLsbD k.bitNo = true ↔ k ∈ l := by
  induction l with
  | nil => simp [faultBits]
  | cons x xs ih =>
    have e : faultBits (x :: xs) = faultBits xs ||| (1#8 <<< x.bitNo) := rfl
    rw [e, BitVec.getLsbD_or, Bool.or_eq_true, ih, List.mem_cons]
    cases x <;> cases k <;> simp [DeviceFault.bitNo]

theorem getLsbD_condBits (l : List Condition) (k : Condition) :
    (condBits l).getLsbD k.bitNo = true ↔ k ∈ l := by
  induction l with
  | nil => simp [condBits]
  | cons x xs ih =>
    have e : condBits (x :: xs) = condBits xs ||| (1#10 <<< x.bitNo) := rfl
    rw [e, BitVec.getLsbD_or, Bool.or_eq_true, ih, List.mem_cons]
    cases x <;> cases k <;> simp [Condition.bitNo]

/-- The bits of a packed result: the conditions, the faults above them, then the two gates and the error summary. -/
theorem getLsbD_pack (r : StatusResult) {k : Nat} (hk : k < 21) :
    r.pack.getLsbD k = if k < 10 then (condBits r.condSet).getLsbD k
      else if k < 18 then (faultBits r.faultSet).getLsbD (k - 10)
      else if k = 18 then r.gFm else if k = 19 then r.gFatal else r.isError := by
  simp only [StatusResult.pack, BitVec.getLsbD_append]
  split
  · rfl
  · by_cases h : k < 18
    · rw [if_pos (by omega), if_pos h]
    · rw [if_neg (by omega), if_neg h]
      have : k = 18 ∨ k = 19 ∨ k = 20 := by omega
      rcases this with rfl | rfl | rfl <;> simp

end Sys2Proof.Machine
end

