-- ==== Sys2Proof/Laws/Operands.lean ====
section
/-! SUPPORT. What the checksum and frame operations compute: the sum and its bound, the digits and their range, and
the two directions of the digit encoding. -/

namespace Sys2Proof.Machine

open Sys2Proof

theorem byteSum_eq_sum (l : List Byte) : byteSum l = (l.map BitVec.toNat).sum := by
  induction l with
  | nil => rfl
  | cons b bs ih => simp [byteSum, ih]

theorem byteSum_append (l m : List Byte) : byteSum (l ++ m) = byteSum l + byteSum m := by
  simp [byteSum_eq_sum]

theorem byteSum_le (l : List Byte) : byteSum l ≤ 255 * l.length := by
  induction l with
  | nil => simp [byteSum]
  | cons b bs ih => have := b.isLt; simp only [byteSum, List.length_cons]; omega

theorem bccSum_eq (lb sq cmd : Byte) (data : List Byte) :
    bccSum lb sq cmd data = lb.toNat + sq.toNat + cmd.toNat + (data.map BitVec.toNat).sum + 5 := by
  simp [bccSum, byteSum_eq_sum]

theorem bccSum_le {data : List Byte} (h : data.length ≤ 219) (lb sq cmd : Byte) :
    bccSum lb sq cmd data ≤ lb.toNat + sq.toNat + cmd.toNat + 55850 := by
  have := byteSum_le data
  simp [bccSum]; omega

theorem digitByte_toNat {d : Nat} (h : d < 16) : (digitByte d).toNat = 0x30 + d := by
  simp [digitByte, Config.cksumDigitBias]; omega

theorem digitVal_digitByte {d : Nat} (h : d < 16) : digitVal (digitByte d) = d := by
  simp [digitVal, digitByte_toNat h, Config.cksumDigitBias]

theorem isDigit_digitByte {d : Nat} (h : d < 16) : isDigit (digitByte d) = true := by
  simp [isDigit, digitByte_toNat h]; omega

theorem isDigit_iff (c : Byte) : isDigit c = true ↔ 0x30 ≤ c.toNat ∧ c.toNat ≤ 0x3F := by
  simp [isDigit]

theorem digitByte_digitVal {c : Byte} (h : isDigit c = true) : digitByte (digitVal c) = c := by
  rw [isDigit_iff] at h
  apply BitVec.eq_of_toNat_eq
  rw [digitByte_toNat (by simp [digitVal, Config.cksumDigitBias]; omega)]
  simp [digitVal, Config.cksumDigitBias]; omega

/-- The four digits in one closed form. -/
theorem enc4_eq (v : Nat) :
    enc4 v = #v[digitByte (v / 4096), digitByte (v / 256 % 16), digitByte (v / 16 % 16), digitByte (v % 16)] := by
  have h1 : v % 4096 / 256 = v / 256 % 16 := by omega
  have h2 : v % 4096 % 256 / 16 = v / 16 % 16 := by omega
  have h3 : v % 4096 % 256 % 16 / 1 = v % 16 := by omega
  simp only [enc4, h1, h2, h3]

theorem dec4_enc4 {v : Nat} (h : v < 65536) :
    dec4 (enc4 v)[0] (enc4 v)[1] (enc4 v)[2] (enc4 v)[3] = v := by
  simp only [enc4_eq]
  have h0 := digitVal_digitByte (d := v / 4096) (by omega)
  have h1 := digitVal_digitByte (d := v / 256 % 16) (by omega)
  have h2 := digitVal_digitByte (d := v / 16 % 16) (by omega)
  have h3 := digitVal_digitByte (d := v % 16) (by omega)
  simp [dec4, h0, h1, h2, h3]; omega

theorem dec4_lt {c0 c1 c2 c3 : Byte} (h0 : isDigit c0 = true) (h1 : isDigit c1 = true) (h2 : isDigit c2 = true)
    (h3 : isDigit c3 = true) : dec4 c0 c1 c2 c3 < 65536 := by
  rw [isDigit_iff] at *
  simp [dec4, digitVal, Config.cksumDigitBias]; omega

theorem enc4_dec4 {c0 c1 c2 c3 : Byte} (h0 : isDigit c0 = true) (h1 : isDigit c1 = true) (h2 : isDigit c2 = true)
    (h3 : isDigit c3 = true) : enc4 (dec4 c0 c1 c2 c3) = #v[c0, c1, c2, c3] := by
  have b0 := (isDigit_iff c0).1 h0
  have b1 := (isDigit_iff c1).1 h1
  have b2 := (isDigit_iff c2).1 h2
  have b3 := (isDigit_iff c3).1 h3
  have e0 : dec4 c0 c1 c2 c3 / 4096 = digitVal c0 := by simp [dec4, digitVal, Config.cksumDigitBias]; omega
  have e1 : dec4 c0 c1 c2 c3 / 256 % 16 = digitVal c1 := by simp [dec4, digitVal, Config.cksumDigitBias]; omega
  have e2 : dec4 c0 c1 c2 c3 / 16 % 16 = digitVal c2 := by simp [dec4, digitVal, Config.cksumDigitBias]; omega
  have e3 : dec4 c0 c1 c2 c3 % 16 = digitVal c3 := by simp [dec4, digitVal, Config.cksumDigitBias]; omega
  rw [enc4_eq, e0, e1, e2, e3, digitByte_digitVal h0, digitByte_digitVal h1, digitByte_digitVal h2,
    digitByte_digitVal h3]

/-- A digit byte of a sum the block forms is in 0x30 to 0x3F. -/
theorem isDigit_enc4 {v : Nat} (h : v < 65536) (k : Fin 4) : isDigit (enc4 v)[k] = true := by
  rw [enc4_eq]
  match k with
  | 0 => exact isDigit_digitByte (by omega)
  | 1 => exact isDigit_digitByte (by omega)
  | 2 => exact isDigit_digitByte (by omega)
  | 3 => exact isDigit_digitByte (by omega)

theorem length_outFrame (sq cmd : Byte) (data : List Byte) : (outFrame sq cmd data).length = 10 + data.length := by
  simp [outFrame]; omega

/-- `NextSeq` as a number (R132). -/
theorem nextSeq_toNat (v : Byte) : (nextSeq v).toNat = if 127 < v.toNat + 1 then 34 else v.toNat + 1 := by
  have hv : Config.seqMax.toNat = 127 := rfl
  simp only [nextSeq, hv]
  split
  · rfl
  · simp [BitVec.toNat_add]; omega

theorem nextSeq_range {v : Byte} (h : 34 ≤ v.toNat ∧ v.toNat ≤ 127) :
    34 ≤ (nextSeq v).toNat ∧ (nextSeq v).toNat ≤ 127 := by
  rw [nextSeq_toNat]; split <;> omega

end Sys2Proof.Machine
end

