-- ==== Sys2Proof/Laws/PerInstr.lean ====
section
/-! SUPPORT. The statement made of every instruction: which control ports its encoding drives. Only RESET drives `rst`;
an instruction with a byte on `rx_byte` drives `op = 0b001` and that byte (30_encoding.md R91, R93). -/

namespace Sys2Proof.Laws

open Sys2Proof

/-- `rst` is asserted for RESET alone; the byte an instruction delivers, if it delivers one, stands on `rx_byte` under
the `op` of RX_BYTE; and no other instruction has that `op`. -/
def EncodePorts.Statement (i : Instr) : Prop :=
  ((encode i).rst = true ↔ i = .reset) ∧
  (∀ b : Byte, i.rxOperand = some b ↔ (encode i).op = opRxByte ∧ (encode i).rxByte = b)

theorem EncodePorts.reset : EncodePorts.Statement .reset := by
  simp [EncodePorts.Statement, encode, Ports.null, Instr.rxOperand, opRxByte]

theorem EncodePorts.nop : EncodePorts.Statement .nop := by
  simp [EncodePorts.Statement, encode, Ports.null, Instr.rxOperand, opRxByte]

theorem EncodePorts.rxByte (b : Byte) : EncodePorts.Statement (.rxByte b) := by
  simp [EncodePorts.Statement, encode, rxPorts, Ports.null, Instr.rxOperand, opRxByte]

theorem EncodePorts.build (cmd : Byte) (data : List Byte) : EncodePorts.Statement (.build cmd data) := by
  simp [EncodePorts.Statement, encode, Ports.null, Instr.rxOperand, opRxByte, opBuild]

theorem EncodePorts.cksumCompute (lb : Byte) (sq : Byte) (cmd : Byte) (data : List Byte) : EncodePorts.Statement (.cksumCompute lb sq cmd data) := by
  simp [EncodePorts.Statement, encode, Ports.null, Instr.rxOperand, opRxByte, opCksumCompute]

theorem EncodePorts.cksumDecode (c0 : Byte) (c1 : Byte) (c2 : Byte) (c3 : Byte) : EncodePorts.Statement (.cksumDecode c0 c1 c2 c3) := by
  simp [EncodePorts.Statement, encode, Ports.null, Instr.rxOperand, opRxByte, opCksumDecode]

theorem EncodePorts.statusDecode (s0 : Byte) (s1 : Byte) (s2 : Byte) (s3 : Byte) (s4 : Byte) (s5 : Byte) : EncodePorts.Statement (.statusDecode s0 s1 s2 s3 s4 s5) := by
  simp [EncodePorts.Statement, encode, Ports.null, Instr.rxOperand, opRxByte, opStatusDecode]

theorem EncodePorts.decClear : EncodePorts.Statement .decClear := by
  simp [EncodePorts.Statement, encode, Ports.null, Instr.rxOperand, opRxByte, opDecClear]

theorem EncodePorts.reservedOp : EncodePorts.Statement .reservedOp := by
  simp [EncodePorts.Statement, encode, Ports.null, Instr.rxOperand, opRxByte, opReserved]

theorem EncodePorts.rxIdleNak : EncodePorts.Statement .rxIdleNak := by
  simp [EncodePorts.Statement, encode, rxPorts, Ports.null, Instr.rxOperand, opRxByte]

theorem EncodePorts.rxIdleSyn : EncodePorts.Statement .rxIdleSyn := by
  simp [EncodePorts.Statement, encode, rxPorts, Ports.null, Instr.rxOperand, opRxByte]

theorem EncodePorts.rxIdlePreamble : EncodePorts.Statement .rxIdlePreamble := by
  simp [EncodePorts.Statement, encode, rxPorts, Ports.null, Instr.rxOperand, opRxByte]

theorem EncodePorts.rxIdleOther (b : Byte) : EncodePorts.Statement (.rxIdleOther b) := by
  simp [EncodePorts.Statement, encode, rxPorts, Ports.null, Instr.rxOperand, opRxByte]

theorem EncodePorts.rxLenOk (b : Byte) : EncodePorts.Statement (.rxLenOk b) := by
  simp [EncodePorts.Statement, encode, rxPorts, Ports.null, Instr.rxOperand, opRxByte]

theorem EncodePorts.rxLenNeg (b : Byte) : EncodePorts.Statement (.rxLenNeg b) := by
  simp [EncodePorts.Statement, encode, rxPorts, Ports.null, Instr.rxOperand, opRxByte]

theorem EncodePorts.rxSeq (b : Byte) : EncodePorts.Statement (.rxSeq b) := by
  simp [EncodePorts.Statement, encode, rxPorts, Ports.null, Instr.rxOperand, opRxByte]

theorem EncodePorts.rxCmd (b : Byte) : EncodePorts.Statement (.rxCmd b) := by
  simp [EncodePorts.Statement, encode, rxPorts, Ports.null, Instr.rxOperand, opRxByte]

theorem EncodePorts.rxData (b : Byte) : EncodePorts.Statement (.rxData b) := by
  simp [EncodePorts.Statement, encode, rxPorts, Ports.null, Instr.rxOperand, opRxByte]

theorem EncodePorts.rxDelimOk : EncodePorts.Statement .rxDelimOk := by
  simp [EncodePorts.Statement, encode, rxPorts, Ports.null, Instr.rxOperand, opRxByte]

theorem EncodePorts.rxDelimBad (b : Byte) : EncodePorts.Statement (.rxDelimBad b) := by
  simp [EncodePorts.Statement, encode, rxPorts, Ports.null, Instr.rxOperand, opRxByte]

theorem EncodePorts.rxStatus (b : Byte) : EncodePorts.Statement (.rxStatus b) := by
  simp [EncodePorts.Statement, encode, rxPorts, Ports.null, Instr.rxOperand, opRxByte]

theorem EncodePorts.rxPostOk : EncodePorts.Statement .rxPostOk := by
  simp [EncodePorts.Statement, encode, rxPorts, Ports.null, Instr.rxOperand, opRxByte]

theorem EncodePorts.rxPostBad (b : Byte) : EncodePorts.Statement (.rxPostBad b) := by
  simp [EncodePorts.Statement, encode, rxPorts, Ports.null, Instr.rxOperand, opRxByte]

theorem EncodePorts.rxCksum (b : Byte) : EncodePorts.Statement (.rxCksum b) := by
  simp [EncodePorts.Statement, encode, rxPorts, Ports.null, Instr.rxOperand, opRxByte]

theorem EncodePorts.rxTermOk : EncodePorts.Statement .rxTermOk := by
  simp [EncodePorts.Statement, encode, rxPorts, Ports.null, Instr.rxOperand, opRxByte]

theorem EncodePorts.rxTermBad (b : Byte) : EncodePorts.Statement (.rxTermBad b) := by
  simp [EncodePorts.Statement, encode, rxPorts, Ports.null, Instr.rxOperand, opRxByte]

theorem EncodePorts.rxFaulted (b : Byte) : EncodePorts.Statement (.rxFaulted b) := by
  simp [EncodePorts.Statement, encode, rxPorts, Ports.null, Instr.rxOperand, opRxByte]

theorem EncodePorts.rxReservedState (b : Byte) : EncodePorts.Statement (.rxReservedState b) := by
  simp [EncodePorts.Statement, encode, rxPorts, Ports.null, Instr.rxOperand, opRxByte]

end Sys2Proof.Laws
end

