-- ==== Sys2Proof/Laws/Step.lean ====
section
/-! SUPPORT. A step over the host's queue, and a run of steps one byte at a time. -/

namespace Sys2Proof.Machine

open Sys2Proof

/-- The state in which the host's queue is `ps`. -/
theorem fetch_cons {s : State} {p : Ports} {rest : List Ports} (h : s.inputs = p :: rest) :
    s.fetch = (p, { s with inputs := rest }) := by simp [State.fetch, h]

theorem fetch_nil {s : State} (h : s.inputs = []) : s.fetch = (Ports.null, s) := by simp [State.fetch, h]

/-- Offering one port value more and stepping runs its transaction in the state without it. -/
theorem step_offer_cons (p : Ports) (ps : List Ports) (s : State) :
    step (s.offer (p :: ps)) = exec (decode p) (s.offer ps) := by
  simp [step, State.fetch, State.offer]

theorem step_offer_rx (b : Byte) (ps : List Ports) (s : State) :
    step (s.offer (rxPorts b :: ps)) = rxByRule b (s.offer ps) := by
  rw [step_offer_cons, decode_rxPorts]; rfl

@[simp] theorem observe_zero (s : State) : observe 0 s = .next ([], s) := rfl

/-- A run whose first step answers `s'`. -/
theorem observe_succ {k : Nat} {s s' t : State} {os : List Output} (h : step s = .next s')
    (h' : observe k s' = .next (os, t)) : observe (k + 1) s = .next (s'.out :: os, t) := by
  simp [observe, h, h']

/-- Two runs, one after the other. -/
theorem observe_add {j k : Nat} {s t u : State} {os os' : List Output} (h : observe j s = .next (os, t))
    (h' : observe k t = .next (os', u)) : observe (j + k) s = .next (os ++ os', u) := by
  induction j generalizing s os with
  | zero => simp only [observe, Host.Outcome.next.injEq, Prod.mk.injEq] at h; obtain ⟨rfl, rfl⟩ := h; simpa using h'
  | succ j ih =>
    rw [show j + 1 + k = j + k + 1 by omega]
    simp only [observe] at h ⊢
    cases hs : step s with
    | fault f => simp [hs] at h
    | refused r => simp [hs] at h
    | next s' =>
      cases ho : observe j s' with
      | fault f => simp [hs, ho] at h
      | refused r => simp [hs, ho] at h
      | next x =>
        simp only [hs, ho, Host.Outcome.next.injEq, Prod.mk.injEq] at h
        obtain ⟨rfl, rfl⟩ := h
        simp [ih (os := x.1) (by rw [ho])]

end Sys2Proof.Machine
end

