-- ==== Sys2Proof/Laws/Run.lean ====
section
/-! SUPPORT. Runs of received bytes: how they compose, and what the payload, status and checksum fields of a frame and
a dead stream do as a whole. -/

namespace Sys2Proof.Machine

open Sys2Proof

/-- Delivering the bytes `bs` in `s` gives the outputs `os` and ends in `t`, whatever the host offers after them. -/
def Run (s : State) (bs : List Byte) (os : List Output) (t : State) : Prop :=
  ∀ rest, observe bs.length (s.offer (bs.map rxPorts ++ rest)) = .next (os, t.offer rest)

theorem Run.nil (s : State) : Run s [] [] s := fun _ => rfl

theorem Run.trans {s t u : State} {a b : List Byte} {os os' : List Output} (h : Run s a os t) (h' : Run t b os' u) :
    Run s (a ++ b) (os ++ os') u := by
  intro rest
  rw [List.length_append, List.map_append, List.append_assoc]
  exact observe_add (h (b.map rxPorts ++ rest)) (h' rest)

theorem Run.one {s t : State} {b : Byte} (h : ∀ rest, rxByRule b (s.offer rest) = .next (t.offer rest)) :
    Run s [b] [t.out] t := by
  intro rest
  have e : step (s.offer (rxPorts b :: rest)) = .next (t.offer rest) := by rw [step_offer_rx, h]
  exact observe_succ (s' := t.offer rest) e (observe_zero _)

theorem Run.cons {s t u : State} {b : Byte} {bs : List Byte} {os : List Output}
    (h : ∀ rest, rxByRule b (s.offer rest) = .next (t.offer rest)) (h' : Run t bs os u) :
    Run s (b :: bs) (t.out :: os) u :=
  Run.trans (Run.one h) h'

/-- A run cut off after `k` steps. -/
theorem observe_take {k j : Nat} {s t : State} {os : List Output} (h : observe (k + j) s = .next (os, t)) :
    ∃ u, observe k s = .next (os.take k, u) := by
  induction k generalizing s os with
  | zero => exact ⟨s, rfl⟩
  | succ k ih =>
    rw [show k + 1 + j = k + j + 1 by omega] at h
    simp only [observe] at h ⊢
    cases hs : step s with
    | fault f => simp [hs] at h
    | refused r => simp [hs] at h
    | next s' =>
      cases ho : observe (k + j) s' with
      | fault f => simp [hs, ho] at h
      | refused r => simp [hs, ho] at h
      | next x =>
        simp only [hs, ho, Host.Outcome.next.injEq, Prod.mk.injEq] at h
        obtain ⟨rfl, rfl⟩ := h
        obtain ⟨u, hu⟩ := ih (os := x.1) (by rw [ho])
        exact ⟨u, by simp [hu]⟩

/-- The rest of a payload, delivered in READING_DATA (R159). -/
theorem run_data (bs : List Byte) : ∀ s : State, s.st = .readingData → bs ≠ [] →
    s.dcnt.toNat + bs.length = s.nlen.toNat → s.nlen.toNat ≤ 212 →
    ∃ t, Run s bs (List.replicate bs.length .quiet) t ∧
      t = { s with data := t.data, dcnt := t.dcnt, st := .expectDelimiter, out := .quiet } ∧ t.dcnt = s.nlen ∧
      t.data.toList.take s.nlen.toNat = s.data.toList.take s.dcnt.toNat ++ bs := by
  induction bs with
  | nil => intro s _ h; exact absurd rfl h
  | cons b bs ih =>
    intro s hst _ hl hn
    simp only [List.length_cons] at hl
    have hd : (s.dcnt + 1).toNat = s.dcnt.toNat + 1 := by simp [BitVec.toNat_add]; omega
    have hset : (s.pushData b).data.toList.take (s.dcnt.toNat + 1) = s.data.toList.take s.dcnt.toNat ++ [b] := by
      simp only [State.pushData_data, Vector.toList_setIfInBounds]
      rw [List.take_add_one, List.take_set_of_le (by omega), List.getElem?_set_self (by simp; omega)]; rfl
    by_cases hb : bs = []
    · subst hb
      have h1 : s.dcnt.toNat + 1 = s.nlen.toNat := by simpa using hl
      refine ⟨((s.pushData b).goto .expectDelimiter).emit .quiet, ?_, rfl, ?_, ?_⟩
      · refine Run.one (t := ((s.pushData b).goto .expectDelimiter).emit .quiet) (fun rest => ?_)
        simp [rxByRule, hst, ruleData, Config.nInMax, h1]
        rw [if_pos (by omega)]; rfl
      · exact BitVec.eq_of_toNat_eq (by simpa using hd.trans h1)
      · rw [← h1]; exact hset
    · have hne : ¬ s.dcnt.toNat + 1 = s.nlen.toNat := by
        have : 0 < bs.length := List.length_pos_iff.2 hb
        omega
      have hd' : (((s.pushData b).goto .readingData).emit .quiet).dcnt.toNat = s.dcnt.toNat + 1 := hd
      obtain ⟨t, ht, e1, e2, e3⟩ :=
        ih (((s.pushData b).goto .readingData).emit .quiet) rfl hb (by rw [hd']; simp; omega) hn
      refine ⟨t, ?_, e1, e2, ?_⟩
      · refine Run.cons (t := ((s.pushData b).goto .readingData).emit .quiet) (fun rest => ?_) ht
        simp [rxByRule, hst, ruleData, Config.nInMax, hne]
        rw [if_pos (by omega)]; rfl
      · rw [hd'] at e3
        change t.data.toList.take s.nlen.toNat = _ at e3
        rw [e3]
        simp only [State.emit_data, State.goto_data]
        rw [hset]; simp

theorem vector6_eq (v : Vector Byte 6) : v = #v[v[0], v[1], v[2], v[3], v[4], v[5]] := by
  ext i hi
  match i, hi with
  | 0, _ | 1, _ | 2, _ | 3, _ | 4, _ | 5, _ => rfl

theorem vector4_eq (v : Vector Byte 4) : v = #v[v[0], v[1], v[2], v[3]] := by
  ext i hi
  match i, hi with
  | 0, _ | 1, _ | 2, _ | 3, _ => rfl

/-- The six status bytes, delivered from the first on (R162). -/
theorem run_status {s : State} (h : s.st = .readingStatus) (h0 : s.scnt = 0) (v : Vector Byte 6) :
    Run s v.toList (List.replicate 6 .quiet)
      { s with status := v, scnt := 6, st := .expectPostamble, out := .quiet } := by
  generalize e0 : v[0] = x0; generalize e1 : v[1] = x1; generalize e2 : v[2] = x2
  generalize e3 : v[3] = x3; generalize e4 : v[4] = x4; generalize e5 : v[5] = x5
  have hv := vector6_eq v
  rw [e0, e1, e2, e3, e4, e5] at hv; subst hv
  have hx := vector6_eq s.status
  generalize s.status[0] = y0 at hx; generalize s.status[1] = y1 at hx; generalize s.status[2] = y2 at hx
  generalize s.status[3] = y3 at hx; generalize s.status[4] = y4 at hx; generalize s.status[5] = y5 at hx
  obtain ⟨q, st, len, nlen, seq, cmd, data, dcnt, status, scnt, ck, ccnt, fk, out, inputs, free⟩ := s
  simp only at h h0 hx; subst h h0 hx
  refine Run.cons (t := ⟨q, .readingStatus, len, nlen, seq, cmd, data, dcnt, #v[x0, y1, y2, y3, y4, y5], 1, ck, ccnt, fk,
    .quiet, inputs, free⟩) (fun _ => rfl) ?_
  refine Run.cons (t := ⟨q, .readingStatus, len, nlen, seq, cmd, data, dcnt, #v[x0, x1, y2, y3, y4, y5], 2, ck, ccnt, fk,
    .quiet, inputs, free⟩) (fun _ => rfl) ?_
  refine Run.cons (t := ⟨q, .readingStatus, len, nlen, seq, cmd, data, dcnt, #v[x0, x1, x2, y3, y4, y5], 3, ck, ccnt, fk,
    .quiet, inputs, free⟩) (fun _ => rfl) ?_
  refine Run.cons (t := ⟨q, .readingStatus, len, nlen, seq, cmd, data, dcnt, #v[x0, x1, x2, x3, y4, y5], 4, ck, ccnt, fk,
    .quiet, inputs, free⟩) (fun _ => rfl) ?_
  refine Run.cons (t := ⟨q, .readingStatus, len, nlen, seq, cmd, data, dcnt, #v[x0, x1, x2, x3, x4, y5], 5, ck, ccnt, fk,
    .quiet, inputs, free⟩) (fun _ => rfl) ?_
  exact Run.one (t := ⟨q, .expectPostamble, len, nlen, seq, cmd, data, dcnt, #v[x0, x1, x2, x3, x4, x5], 6, ck, ccnt, fk,
    .quiet, inputs, free⟩) (fun _ => rfl)

/-- The four checksum bytes, delivered from the first on (R165). -/
theorem run_cksum {s : State} (h : s.st = .readingChecksum) (h0 : s.ccnt = 0) (v : Vector Byte 4) :
    Run s v.toList (List.replicate 4 .quiet)
      { s with cksum := v, ccnt := 4, st := .expectTerminator, out := .quiet } := by
  generalize e0 : v[0] = x0; generalize e1 : v[1] = x1; generalize e2 : v[2] = x2; generalize e3 : v[3] = x3
  have hv := vector4_eq v
  rw [e0, e1, e2, e3] at hv; subst hv
  have hx := vector4_eq s.cksum
  generalize s.cksum[0] = y0 at hx; generalize s.cksum[1] = y1 at hx
  generalize s.cksum[2] = y2 at hx; generalize s.cksum[3] = y3 at hx
  obtain ⟨q, st, len, nlen, seq, cmd, data, dcnt, status, scnt, ck, ccnt, fk, out, inputs, free⟩ := s
  simp only at h h0 hx; subst h h0 hx
  refine Run.cons (t := ⟨q, .readingChecksum, len, nlen, seq, cmd, data, dcnt, status, scnt, #v[x0, y1, y2, y3], 1, fk,
    .quiet, inputs, free⟩) (fun _ => rfl) ?_
  refine Run.cons (t := ⟨q, .readingChecksum, len, nlen, seq, cmd, data, dcnt, status, scnt, #v[x0, x1, y2, y3], 2, fk,
    .quiet, inputs, free⟩) (fun _ => rfl) ?_
  refine Run.cons (t := ⟨q, .readingChecksum, len, nlen, seq, cmd, data, dcnt, status, scnt, #v[x0, x1, x2, y3], 3, fk,
    .quiet, inputs, free⟩) (fun _ => rfl) ?_
  exact Run.one (t := ⟨q, .expectTerminator, len, nlen, seq, cmd, data, dcnt, status, scnt, #v[x0, x1, x2, x3], 4, fk,
    .quiet, inputs, free⟩) (fun _ => rfl)

/-- A dead stream: bytes delivered in FAULTED (R168). -/
theorem run_faulted (bs : List Byte) : ∀ s : State, s.st = .faulted →
    ∃ t, Run s bs (List.replicate bs.length .quiet) t ∧ t.st = .faulted ∧ t.faultKind = s.faultKind := by
  induction bs with
  | nil => intro s h; exact ⟨s, Run.nil s, h, rfl⟩
  | cons b bs ih =>
    intro s h
    obtain ⟨t, ht, h1, h2⟩ := ih (s.emit .quiet) h
    exact ⟨t, Run.cons (t := s.emit .quiet) (fun rest => by simp [rxByRule, h, ruleFaulted]; rfl) ht, h1, h2⟩

end Sys2Proof.Machine
end

