-- ==== Sys2Proof/Laws/Rx.lean ====
section
/-! SUPPORT. What one received byte can do, said once: the rules as record updates, and the inversion of RX_BYTE. -/

namespace Sys2Proof.Machine

open Sys2Proof

/-- Everything RX_BYTE can do when it answers a next state: stay with an event or none, move on, start a frame, store
the byte, emit the record, or raise a FramingFault. -/
theorem rxByRule_cases {b : Byte} {s t : State} (h : rxByRule b s = .next t) :
    (s.st = .idle ∧ b = Config.nak ∧ t = s.emit .nak) ∨
    (s.st = .idle ∧ b = Config.syn ∧ t = s.emit .quiet) ∨
    (s.st = .idle ∧ b = Config.preamble ∧ t = (s.goto .readingLength).emit .quiet) ∨
    (s.st = .readingLength ∧ 43 ≤ b.toNat ∧ t = ((s.startFrame b).goto .readingSequence).emit .quiet) ∨
    (s.st = .readingSequence ∧ t = ({ s with seq := b }.goto .readingCommand).emit .quiet) ∨
    (s.st = .readingCommand ∧
      t = ({ s with cmd := b }.goto (if s.nlen = 0 then .expectDelimiter else .readingData)).emit .quiet) ∨
    (s.st = .readingData ∧ s.dcnt.toNat < 212 ∧ t = ((s.pushData b).goto
      (if s.dcnt.toNat + 1 = s.nlen.toNat then .expectDelimiter else .readingData)).emit .quiet) ∨
    (s.st = .expectDelimiter ∧ b = Config.delimiter ∧ t = (s.goto .readingStatus).emit .quiet) ∨
    (s.st = .readingStatus ∧ s.scnt.toNat < 6 ∧ t = ((s.pushStatus b).goto
      (if s.scnt.toNat + 1 = 6 then .expectPostamble else .readingStatus)).emit .quiet) ∨
    (s.st = .expectPostamble ∧ b = Config.postamble ∧ t = (s.goto .readingChecksum).emit .quiet) ∨
    (s.st = .readingChecksum ∧ s.ccnt.toNat < 4 ∧ t = ((s.pushCksum b).goto
      (if s.ccnt.toNat + 1 = 4 then .expectTerminator else .readingChecksum)).emit .quiet) ∨
    (s.st = .expectTerminator ∧ b = Config.terminator ∧ s.nlen.toNat ≤ 212 ∧
      t = (s.goto .idle).emit (.frame (frameRec s))) ∨
    (s.st = .faulted ∧ t = s.emit .quiet) ∨
    (s.st ≠ .faulted ∧ ∃ k, k ≠ FaultKind.none ∧ t = s.raiseFramingFault k) := by
  unfold rxByRule at h
  split at h <;> rename_i hst
  · split at h
    · simp_all [ruleIdleNak]
    · split at h
      · simp_all [ruleIdleSyn]
      · split at h
        · simp_all [ruleIdlePreamble]
        · simp_all [ruleIdleOther]
          exact ⟨.malformed, by decide, h.symm⟩
  · split at h
    · simp_all [ruleLenOk, Config.lenBiasIn]
    · simp_all [ruleLenNeg]
      exact .inr ⟨.negLength, by decide, h.symm⟩
  · simp_all [ruleSeq]
  · simp_all [ruleCmd]
  · unfold ruleData at h
    split at h <;> simp_all [Config.nInMax]
  · split at h
    · simp_all [ruleDelimOk]
    · simp_all [ruleDelimBad]
      exact ⟨.delimiter, by decide, h.symm⟩
  · unfold ruleStatus at h
    split at h <;> simp_all [Config.statusLen]
  · split at h
    · simp_all [rulePostOk]
    · simp_all [rulePostBad]
      exact ⟨.postamble, by decide, h.symm⟩
  · unfold ruleCksum at h
    split at h <;> simp_all [Config.cksumLen]
  · split at h
    · unfold ruleTermOk at h
      split at h <;> simp_all [Config.nInMax]
    · simp_all [ruleTermBad]
      exact ⟨.terminator, by decide, h.symm⟩
  · simp_all [ruleFaulted]
  · simp [ruleReservedState] at h

end Sys2Proof.Machine
end

