-- ==== Sys2Proof/Tests/Slice0.lean ====
section
/-! SUPPORT. Tests. Expected values are the spec's: the vectors K, D, B, X, S and R of 95_test_vectors.md and the
examples of the rules, each named where it stands. Then a witness for the hypotheses of each obligation. -/

namespace Sys2Proof.Tests

open Sys2Proof Sys2Proof.Machine

-- One theorem after another: run side by side, each holds a thread while it waits for the kernel.
set_option Elab.async false

/-- The outcome is a next state, and `p` holds of it. -/
def nextHas (o : Host.Outcome State Fault Refusal) (p : State → Bool) : Bool :=
  match o with
  | .next t => p t
  | .fault _ => false
  | .refused _ => false

/-- A decoder in the state `d`, with `NLEN = n` and the counts given. -/
def decoderAt (d : DecState) (n : Byte) (dc : Byte) (sc cc : BitVec 3) : State :=
  { State.reset with st := d, len := n + 43, nlen := n, dcnt := dc, scnt := sc, ccnt := cc }

/-- A block with the sequence counter at `v`. -/
def seqAt (v : Byte) : State := { State.reset with seqctr := v }

/-- A decoder that has faulted with the kind `k`. -/
def faultedWith (k : FaultKind) : State := { State.reset with st := .faulted, faultKind := k }

/-- The payload "sCASH_LOC" of Scenario 1, as the bytes program P1 gives for it. -/
def scenario1 : List Byte := [0x73, 0x43, 0x41, 0x53, 0x48, 0x5F, 0x4C, 0x4F, 0x43]

/-! ### Ill-formed terms are refused -/

theorem test_wf_build_n_in : Instr.wellFormed (.build 0x41 (List.replicate 256 0)) = false := by decide +kernel
theorem test_wf_build_no_port : Instr.wellFormed (.build 0x41 (List.replicate 219 0 ++ [0x01])) = false := by
  decide +kernel
theorem test_wf_cksum_n_in : Instr.wellFormed (.cksumCompute 0 0 0 (List.replicate 256 0)) = false := by
  decide +kernel
theorem test_wf_cksum_no_port : Instr.wellFormed (.cksumCompute 0 0 0 (List.replicate 219 0 ++ [0x01])) = false := by
  decide +kernel
theorem test_wf_idleOther_preamble : Instr.wellFormed (.rxIdleOther 0x01) = false := by decide
theorem test_wf_idleOther_nak : Instr.wellFormed (.rxIdleOther 0x15) = false := by decide
theorem test_wf_idleOther_syn : Instr.wellFormed (.rxIdleOther 0x16) = false := by decide
theorem test_wf_lenOk : Instr.wellFormed (.rxLenOk 0x2A) = false := by decide
theorem test_wf_lenNeg : Instr.wellFormed (.rxLenNeg 0x2B) = false := by decide
theorem test_wf_delimBad : Instr.wellFormed (.rxDelimBad 0x04) = false := by decide
theorem test_wf_postBad : Instr.wellFormed (.rxPostBad 0x05) = false := by decide
theorem test_wf_termBad : Instr.wellFormed (.rxTermBad 0x03) = false := by decide

/-! ### Decoding. The port values are written out from R91 and R93, not by the encoder. -/

/-- R249: `rst = 1` with `op = 010` is RESET (vector R-5). -/
theorem test_decode_reset :
    decode ⟨true, 0b010, 0, 0x41, 0, 0, Vector.replicate 219 0, 0, #v[0, 0, 0, 0], #v[0, 0, 0, 0, 0, 0]⟩ = .reset := by
  decide +kernel
theorem test_decode_nop : decode { Ports.null with op := 0b000 } = .nop := by decide +kernel
theorem test_decode_rxByte : decode { Ports.null with op := 0b001, rxByte := 0xA5 } = .rxByte 0xA5 := by decide +kernel
/-- Program P1, line 2: `op=010 cmd=41 n_in=09 data_in=73 43 41 53 48 5F 4C 4F 43`. -/
theorem test_decode_build :
    decode { Ports.null with op := 0b010, cmd := 0x41, nIn := 9, dataIn := Vector.ofFn fun i => scenario1.getD i.val 0xEE }
      = .build 0x41 scenario1 := by decide +kernel
/-- Program P1, line 4: `op=011 len_in=24 seq_in=23 cmd=4A n_in=00`. -/
theorem test_decode_cksumCompute :
    decode { Ports.null with op := 0b011, lenIn := 0x24, seqIn := 0x23, cmd := 0x4A, nIn := 0 }
      = .cksumCompute 0x24 0x23 0x4A [] := by decide +kernel
/-- Program P1, line 5: `op=100 ck_in=30 30 39 36`. -/
theorem test_decode_cksumDecode :
    decode { Ports.null with op := 0b100, ckIn := #v[0x30, 0x30, 0x39, 0x36] } = .cksumDecode 0x30 0x30 0x39 0x36 := by
  decide +kernel
theorem test_decode_statusDecode :
    decode { Ports.null with op := 0b101, stIn := #v[1, 2, 3, 4, 5, 6] } = .statusDecode 1 2 3 4 5 6 := by
  decide +kernel
theorem test_decode_decClear : decode { Ports.null with op := 0b110 } = .decClear := by decide +kernel
theorem test_decode_reservedOp : decode { Ports.null with op := 0b111 } = .reservedOp := by decide +kernel

/-- R133 with a payload longer than the ports can carry: the transaction its ports select is refused all the same. -/
theorem test_encode_tooLong : nextHas (exec (decode (encode (.build 0x41 (List.replicate 256 0)))) State.reset)
    (fun t => t.errCodeOut == 1 && t.seqctr == 0x22) = true := by decide +kernel

/-- A delivered byte `b`: `op=001 rx_byte=b`. -/
def deliver (b : Byte) : Ports := { Ports.null with op := 0b001, rxByte := b }

theorem test_row_idleNak : decodeIn .idle (deliver 0x15) = .rxIdleNak := by decide +kernel
theorem test_row_idleSyn : decodeIn .idle (deliver 0x16) = .rxIdleSyn := by decide +kernel
theorem test_row_idlePreamble : decodeIn .idle (deliver 0x01) = .rxIdlePreamble := by decide +kernel
theorem test_row_idleOther : decodeIn .idle (deliver 0x03) = .rxIdleOther 0x03 := by decide +kernel
theorem test_row_lenOk : decodeIn .readingLength (deliver 0x2B) = .rxLenOk 0x2B := by decide +kernel
theorem test_row_lenNeg : decodeIn .readingLength (deliver 0x2A) = .rxLenNeg 0x2A := by decide +kernel
theorem test_row_seq : decodeIn .readingSequence (deliver 0x15) = .rxSeq 0x15 := by decide +kernel
theorem test_row_cmd : decodeIn .readingCommand (deliver 0x01) = .rxCmd 0x01 := by decide +kernel
theorem test_row_data : decodeIn .readingData (deliver 0x03) = .rxData 0x03 := by decide +kernel
theorem test_row_delimOk : decodeIn .expectDelimiter (deliver 0x04) = .rxDelimOk := by decide +kernel
theorem test_row_delimBad : decodeIn .expectDelimiter (deliver 0x05) = .rxDelimBad 0x05 := by decide +kernel
theorem test_row_status : decodeIn .readingStatus (deliver 0x16) = .rxStatus 0x16 := by decide +kernel
theorem test_row_postOk : decodeIn .expectPostamble (deliver 0x05) = .rxPostOk := by decide +kernel
theorem test_row_postBad : decodeIn .expectPostamble (deliver 0x03) = .rxPostBad 0x03 := by decide +kernel
theorem test_row_cksum : decodeIn .readingChecksum (deliver 0x03) = .rxCksum 0x03 := by decide +kernel
theorem test_row_termOk : decodeIn .expectTerminator (deliver 0x03) = .rxTermOk := by decide +kernel
theorem test_row_termBad : decodeIn .expectTerminator (deliver 0x04) = .rxTermBad 0x04 := by decide +kernel
theorem test_row_faulted : decodeIn .faulted (deliver 0x01) = .rxFaulted 0x01 := by decide +kernel
theorem test_row_reservedState : decodeIn (.reserved 4) (deliver 0x01) = .rxReservedState 0x01 := by decide +kernel

/-- Words no format of the table has. -/
theorem test_word_refused : decodeTableWord 8 256 = none ∧ decodeTableWord 16 1 = none ∧ decodeTableWord 3 8 = none := by
  decide +kernel
/-- The next step runs the word that `withFetchWord` places: 0x15 in IDLE is a NAK (R151). -/
theorem test_withFetchWord : nextHas (step (State.reset.withFetchWord 8 0x15)) (fun t => t.evNak) = true := by
  decide +kernel

/-! ### One step of each instruction -/

/-- Vector R-1. -/
theorem test_reset : nextHas (exec .reset { decoderAt .readingData 3 1 0 0 with seqctr := 0x57 })
    (fun t => t.st == .idle && t.seqctr == 0x22 && t.faultKind == .none && t.dcnt == 0 && t.out == .quiet) = true := by
  decide +kernel
/-- Vector R-4. -/
theorem test_nop : exec .nop { seqAt 0x25 with out := .nak } = .next (seqAt 0x25) := by rfl
/-- Vector B1, Scenario 1. -/
theorem test_build : nextHas (exec (.build 0x41 scenario1) State.reset) (fun t => t.seqctr == 0x23 &&
    t.out == .txFrame [0x01, 0x2D, 0x22, 0x41, 0x73, 0x43, 0x41, 0x53, 0x48, 0x5F, 0x4C, 0x4F, 0x43, 0x05,
      0x30, 0x33, 0x36, 0x34, 0x03] && t.txN == some 19) = true := by decide +kernel
/-- Vector B4: the counter wraps, and a digit is 15. -/
theorem test_build_wrap : nextHas (exec (.build 0x4A []) (seqAt 0x7F)) (fun t => t.seqctr == 0x22 &&
    t.out == .txFrame [0x01, 0x24, 0x7F, 0x4A, 0x05, 0x30, 0x30, 0x3F, 0x32, 0x03]) = true := by decide +kernel
/-- Vector K7: the largest sum. -/
theorem test_cksumCompute : nextHas (exec (.cksumCompute 0xFF 0xFF 0xFF (List.replicate 219 0xFF)) State.reset)
    (fun t => t.ckOut == some #v[0x3D, 0x3D, 0x32, 0x37]) = true := by decide +kernel
/-- Vector K11. -/
theorem test_cksumCompute_tooLong : nextHas (exec (.cksumCompute 0x24 0x22 0x41 (List.replicate 220 0)) State.reset)
    (fun t => t.errOut && t.errCodeOut == 2) = true := by decide +kernel
/-- Vector D-5. -/
theorem test_cksumDecode : nextHas (exec (.cksumDecode 0x30 0x31 0x3A 0x37) State.reset)
    (fun t => t.bccOut == some 423) = true := by decide +kernel
/-- Vector D-6. -/
theorem test_cksumDecode_badDigit : nextHas (exec (.cksumDecode 0x30 0x30 0x30 0x41) State.reset)
    (fun t => t.errCodeOut == 3 && t.bccOut == none) = true := by decide +kernel
/-- Vector S16. -/
theorem test_statusDecode : nextHas (exec (.statusDecode 0x20 0x00 0x01 0x00 0x21 0x00) State.reset)
    (fun t => t.sdOut == some 0x1CC000) = true := by decide +kernel
/-- Vector S13. -/
theorem test_statusDecode_conditions : nextHas (exec (.statusDecode 0x28 0x00 0x20 0x00 0x00 0x00) State.reset)
    (fun t => t.sdOut == some 0x180021) = true := by decide +kernel
/-- Vector R-2. -/
theorem test_decClear : exec .decClear { faultedWith .terminator with seqctr := 0x30 } = .next (seqAt 0x30) := by rfl
/-- Vector R-3. -/
theorem test_reservedOp : exec .reservedOp (seqAt 0x25) = .next { seqAt 0x25 with out := .err .oeReserved } ∧
    ErrCode.oeReserved.code = 4 := ⟨rfl, rfl⟩
/-- R151's example. -/
theorem test_rxIdleNak : nextHas (exec .rxIdleNak State.reset) (fun t => t.evNak && t.st == .idle) = true := by
  decide +kernel
/-- R152's example. -/
theorem test_rxIdleSyn : exec .rxIdleSyn State.reset = .next State.reset := by rfl
/-- R153's example. -/
theorem test_rxIdlePreamble : nextHas (exec .rxIdlePreamble State.reset)
    (fun t => t.decStateOut == 1 && t.out == .quiet) = true := by decide +kernel
/-- Vector X10. -/
theorem test_rxIdleOther : nextHas (exec (.rxIdleOther 0x03) State.reset)
    (fun t => t.evFault && t.faultKindOut == 1 && t.decStateOut == 0xF) = true := by decide +kernel
/-- R155's example. -/
theorem test_rxLenOk : nextHas (exec (.rxLenOk 0x2C) (decoderAt .readingLength 9 3 6 4)) (fun t =>
    t.len == 0x2C && t.nlen == 1 && t.dcnt == 0 && t.scnt == 0 && t.ccnt == 0 && t.st == .readingSequence) = true := by
  decide +kernel
/-- Vector X2. -/
theorem test_rxLenNeg : nextHas (exec (.rxLenNeg 0x2A) (decoderAt .readingLength 9 3 6 4))
    (fun t => t.faultKindOut == 2 && t.st == .faulted && t.nlen == 9) = true := by decide +kernel
/-- R157's example. -/
theorem test_rxSeq : nextHas (exec (.rxSeq 0x22) (decoderAt .readingSequence 1 0 0 0))
    (fun t => t.seq == 0x22 && t.st == .readingCommand) = true := by decide +kernel
/-- R158's example. -/
theorem test_rxCmd : nextHas (exec (.rxCmd 0x30) (decoderAt .readingCommand 1 0 0 0))
    (fun t => t.cmd == 0x30 && t.st == .readingData) = true := by decide +kernel
/-- R158: without a payload the delimiter comes next. -/
theorem test_rxCmd_noPayload : nextHas (exec (.rxCmd 0x30) (decoderAt .readingCommand 0 0 0 0))
    (fun t => t.cmd == 0x30 && t.st == .expectDelimiter) = true := by decide +kernel
/-- R159's example. -/
theorem test_rxData : nextHas (exec (.rxData 0x41) (decoderAt .readingData 1 0 0 0))
    (fun t => t.data[0] == 0x41 && t.dcnt == 1 && t.st == .expectDelimiter) = true := by decide +kernel
/-- R159 at the last entry of the largest payload. -/
theorem test_rxData_last : nextHas (exec (.rxData 0xAA) (decoderAt .readingData 212 211 0 0))
    (fun t => t.data[211] == 0xAA && t.data[210] == 0 && t.dcnt == 212 && t.st == .expectDelimiter) = true := by
  decide +kernel
/-- R160's example. -/
theorem test_rxDelimOk : nextHas (exec .rxDelimOk (decoderAt .expectDelimiter 0 0 0 0))
    (fun t => t.st == .readingStatus) = true := by decide +kernel
/-- R161's example. -/
theorem test_rxDelimBad : nextHas (exec (.rxDelimBad 0x05) (decoderAt .expectDelimiter 0 0 0 0))
    (fun t => t.evFault && t.faultKindOut == 3) = true := by decide +kernel
/-- R162: the sixth byte. -/
theorem test_rxStatus : nextHas (exec (.rxStatus 0x77) (decoderAt .readingStatus 0 0 5 0))
    (fun t => t.status == #v[0, 0, 0, 0, 0, 0x77] && t.scnt == 6 && t.st == .expectPostamble) = true := by decide +kernel
/-- R163's example. -/
theorem test_rxPostOk : nextHas (exec .rxPostOk (decoderAt .expectPostamble 0 0 6 0))
    (fun t => t.st == .readingChecksum) = true := by decide +kernel
/-- R164's example. -/
theorem test_rxPostBad : nextHas (exec (.rxPostBad 0x03) (decoderAt .expectPostamble 0 0 6 0))
    (fun t => t.evFault && t.faultKindOut == 4) = true := by decide +kernel
/-- R165: the fourth byte, outside the digits. -/
theorem test_rxCksum : nextHas (exec (.rxCksum 0xFF) (decoderAt .readingChecksum 0 0 6 3))
    (fun t => t.cksum == #v[0, 0, 0, 0xFF] && t.ccnt == 4 && t.st == .expectTerminator) = true := by decide +kernel
/-- Scenario 3, byte 18. -/
theorem test_rxTermOk : nextHas (exec .rxTermOk
      { decoderAt .expectTerminator 1 1 6 4 with
        seq := 0x22, cmd := 0x30, data := (Vector.replicate 212 0xEE).set 0 0x41, status := #v[0x21, 0, 0, 0, 0, 0],
        cksum := #v[0x30, 0x30, 0x30, 0x30] })
    (fun t => t.evFrame && t.frameLen == some 0x2C && t.frameSeq == some 0x22 && t.frameCmd == some 0x30 &&
      t.frameN == some 1 && t.frameData == some [0x41] && t.frameStatus == some #v[0x21, 0, 0, 0, 0, 0] &&
      t.frameCksum == some #v[0x30, 0x30, 0x30, 0x30] && t.frameDec == some 0x180800 && t.st == .idle) = true := by
  decide +kernel
/-- R167's example. -/
theorem test_rxTermBad : nextHas (exec (.rxTermBad 0x04) (decoderAt .expectTerminator 0 0 6 4))
    (fun t => t.evFault && t.faultKindOut == 5 && t.frameOut == none) = true := by decide +kernel
/-- Vector X13: the second byte. -/
theorem test_rxFaulted : exec (.rxFaulted 0x01) (faultedWith .malformed) = .next (faultedWith .malformed) := by rfl
/-- R169: no result from a reserved code. -/
theorem test_rxReservedState :
    exec (.rxReservedState 0x01) { State.reset with st := .reserved 0 } = .refused .reservedDecoderState := by
  rfl
/-- Vector X14, byte 7: a NAK inside a frame is data, and RX_BYTE stores it. -/
theorem test_rxByte_transparent : nextHas (exec (.rxByte 0x15) (decoderAt .readingData 6 1 0 0))
    (fun t => t.data[1] == 0x15 && t.dcnt == 2 && t.st == .readingData && !t.evNak) = true := by decide +kernel
/-- Vector X6: a byte more than the length byte claims. -/
theorem test_rxByte_surplus : nextHas (exec (.rxByte 0x41) (decoderAt .expectDelimiter 0 0 0 0))
    (fun t => t.evFault && t.faultKindOut == 3 && t.decStateOut == 0xF) = true := by decide +kernel
/-- R96 on the bytes of Scenario 2. -/
theorem test_rxFrame_expansion : (ScriptLine.rxFrame 0x22 0x30 [0x41] (Vector.replicate 6 0) none).ports =
    [0x01, 0x2C, 0x22, 0x30, 0x41, 0x04, 0x00, 0x00, 0x00, 0x00, 0x00, 0x00, 0x05, 0x30, 0x30, 0x30, 0x30, 0x03].map
      deliver := by rfl

/-! ### Witnesses: states and operands that meet the hypotheses of the obligations, at the ends of each range -/

theorem witness_DecodeEncodeTransactions :
    (Instr.build 0x41 (List.replicate 219 0xFF)).wellFormed = true ∧
    (Instr.build 0x41 (List.replicate 219 0xFF)).isRow = false ∧
    (Instr.cksumCompute 0xFF 0x7F 0xFF (List.replicate 219 0xFF ++ List.replicate 36 0)).wellFormed = true ∧
    (Instr.cksumCompute 0xFF 0x7F 0xFF (List.replicate 219 0xFF ++ List.replicate 36 0)).isRow = false := by
  decide +kernel
theorem witness_DecodeEncodeRows :
    ((Instr.rxLenOk 0x2B).wellFormed = true ∧ (Instr.rxLenOk 0x2B).isRow = true ∧
      (Instr.rxLenOk 0x2B).rowState .readingLength = true) ∧
    ((Instr.rxLenNeg 0x2A).wellFormed = true ∧ (Instr.rxLenNeg 0x2A).isRow = true ∧
      (Instr.rxLenNeg 0x2A).rowState .readingLength = true) ∧
    ((Instr.rxReservedState 0xFF).wellFormed = true ∧ (Instr.rxReservedState 0xFF).isRow = true ∧
      (Instr.rxReservedState 0xFF).rowState (.reserved 4) = true) := by decide +kernel
/-- The payload clause at both ends of `n_in` and at the last port. -/
theorem witness_OpSelectsTransaction :
    ({ Ports.null with rst := true }).rst = true ∧
    ({ Ports.null with op := 0b010, nIn := 255 }).rst = false ∧
    (218 : Fin 219).val < ({ Ports.null with op := 0b010, nIn := 219 }).nIn.toNat ∧
    ({ Ports.null with op := 0b011, nIn := 0 }).nIn.toNat = 0 := by decide +kernel
theorem witness_StepRunsOfferedTransaction :
    (State.reset.offer [deliver 0x15]).inputs = deliver 0x15 :: [] ∧ State.reset.inputs = [] := ⟨rfl, rfl⟩
theorem witness_RxFrameExpands : (List.replicate 212 (0xAA : Byte)).length ≤ 212 := by decide +kernel
theorem witness_ResetTransaction : ({ Ports.null with rst := true, op := 0b010 }).rst = true := by decide
theorem witness_PowerOnIsResetState : ∃ t, exec .reset (faultedWith .delimiter) = .next t := ⟨_, rfl⟩
theorem witness_ClearingIsIdempotent :
    (∃ t, exec .decClear (faultedWith .delimiter) = .next t) ∧ ∃ t, exec .reset (faultedWith .delimiter) = .next t :=
  ⟨⟨_, rfl⟩, ⟨_, rfl⟩⟩
theorem witness_NullStepAndReservedOp :
    ({ Ports.null with op := 0b000 }).rst = false ∧ ({ Ports.null with op := 0b111 }).rst = false := by decide
/-- One transaction for each code, at the shortest over-long payload and the digits next to the range. -/
theorem witness_ErrorCodesOnPort :
    nextHas (exec (.build 0x41 (List.replicate 220 0)) State.reset) (fun t => t.errCodeOut == 1) = true ∧
    nextHas (exec (.build 0x41 (List.replicate 219 0)) State.reset) (fun t => t.errCodeOut == 0) = true ∧
    nextHas (exec (.cksumCompute 0 0 0 (List.replicate 220 0)) State.reset) (fun t => t.errCodeOut == 2) = true ∧
    nextHas (exec (.cksumDecode 0x2F 0x30 0x30 0x30) State.reset) (fun t => t.errCodeOut == 3) = true ∧
    nextHas (exec (.cksumDecode 0x30 0x30 0x40 0x30) State.reset) (fun t => t.errCodeOut == 3) = true ∧
    nextHas (exec .reservedOp State.reset) (fun t => t.errCodeOut == 4) = true := by decide +kernel
theorem witness_DecClearTransaction : ({ Ports.null with op := 0b110 }).selects 0b110 := ⟨rfl, rfl⟩
/-- A transaction that causes each output, and one that causes none. -/
theorem witness_EventsComeFromTheirTransaction :
    nextHas (exec .rxIdleNak State.reset) (fun t => t.evNak) = true ∧
    nextHas (exec .rxTermOk (decoderAt .expectTerminator 0 0 6 4)) (fun t => t.evFrame) = true ∧
    nextHas (exec (.rxByte 0x00) State.reset) (fun t => t.evFault) = true ∧
    nextHas (exec (.build 0x4A []) State.reset) (fun t => t.txValid) = true ∧
    nextHas (exec (.cksumCompute 0 0 0 []) State.reset) (fun t => t.ckOut.isSome) = true ∧
    nextHas (exec (.cksumDecode 0x30 0x30 0x30 0x3F) State.reset) (fun t => t.bccOut.isSome) = true ∧
    nextHas (exec (.statusDecode 0 0 0 0 0 0) State.reset) (fun t => t.sdOut.isSome) = true ∧
    nextHas (exec .nop State.reset) (fun t => !t.sdOut.isSome) = true := by decide +kernel
/-- Ports that carry the longest payload BUILD accepts, and one no payload port can carry whole. -/
theorem witness_carries :
    ({ Ports.null with nIn := 219 }).nIn.toNat = (List.replicate 219 (0 : Byte)).length ∧
    (∀ k : Fin 219, k.val < (List.replicate 219 (0 : Byte)).length →
      (List.replicate 219 (0 : Byte))[k.val]? = some ({ Ports.null with nIn := 219 }).dataIn[k]) ∧
    ({ Ports.null with nIn := 220 }).nIn.toNat = (List.replicate 220 (0 : Byte)).length := by decide +kernel
theorem witness_CksumComputeResult :
    423 = (0x24 : Byte).toNat + (0x7F : Byte).toNat + (0xFF : Byte).toNat + (([] : List Byte).map BitVec.toNat).sum
      + 0x05 ∧
    (#v[0x30, 0x31, 0x3A, 0x37] : Vector Byte 4) = #v[BitVec.ofNat 8 (0x30 + 423 / 4096),
      BitVec.ofNat 8 (0x30 + 423 / 256 % 16), BitVec.ofNat 8 (0x30 + 423 / 16 % 16), BitVec.ofNat 8 (0x30 + 423 % 16)] ∧
    (List.replicate 219 (0xFF : Byte)).length ≤ 219 ∧ 219 < (List.replicate 220 (0xFF : Byte)).length ∧
    (({ Ports.null with op := 0b011, lenIn := 0x24, seqIn := 0x7F, cmd := 0xFF }).rst = false ∧
      ({ Ports.null with op := 0b011, lenIn := 0x24, seqIn := 0x7F, cmd := 0xFF }).nIn.toNat = 0) := by
  decide +kernel
theorem witness_CksumDecodeResult :
    ({ Ports.null with op := 0b100 }).selects 0b100 ∧
    (∀ d ∈ [(0x30 : Byte), 0x3F, 0x30, 0x3F], 0x30 ≤ d.toNat ∧ d.toNat ≤ 0x3F) ∧
    (∃ d ∈ [(0x30 : Byte), 0x30, 0x30, 0x2F], d.toNat < 0x30 ∨ 0x3F < d.toNat) ∧
    (∃ d ∈ [(0x40 : Byte), 0x30, 0x30, 0x30], d.toNat < 0x30 ∨ 0x3F < d.toNat) :=
  ⟨⟨rfl, rfl⟩, by decide⟩
theorem witness_CksumSumBounds :
    (List.replicate 219 (0xFF : Byte)).length ≤ 219 ∧ (0x7F : Byte).toNat ≤ 0x7F := by decide +kernel
theorem witness_ChecksumRoundTrip :
    (65535 ≤ 65535 ∧ 0 ≤ 65535) ∧
    (∃ t, exec (.cksumDecode 0x3F 0x3F 0x3F 0x3F) State.reset = .next t ∧ t.out = .bcc 65535) ∧
    (∃ t, exec (.cksumCompute 0x24 0x7F 0xFF []) State.reset = .next t ∧ t.out = .cksum #v[0x30, 0x31, 0x3A, 0x37]) :=
  ⟨by decide, ⟨_, rfl, by decide +kernel⟩, ⟨_, rfl, by decide +kernel⟩⟩
theorem witness_ChecksumReadsNoRegister :
    (∃ lb sq cmd data, Instr.cksumCompute 0 0 0 [] = .cksumCompute lb sq cmd data) ∧
    (∃ c0 c1 c2 c3, Instr.cksumDecode 0 0 0 0 = .cksumDecode c0 c1 c2 c3) := ⟨⟨_, _, _, _, rfl⟩, ⟨_, _, _, _, rfl⟩⟩
theorem witness_BuildResult :
    ({ Ports.null with op := 0b010, cmd := 0x4A }).selects 0b010 ∧
    149 = (0x24 + ([] : List Byte).length) + State.reset.seqctr.toNat + (0x4A : Byte).toNat
      + (([] : List Byte).map BitVec.toNat).sum + 0x05 ∧
    (List.replicate 219 (0xFF : Byte)).length ≤ 219 ∧ 219 < (List.replicate 220 (0xFF : Byte)).length :=
  ⟨⟨rfl, rfl⟩, by decide +kernel⟩
theorem witness_BuiltFrameLayout :
    (∃ t f, exec (.build 0x4A []) State.reset = .next t ∧ t.out = .txFrame f) ∧
    nextHas (exec (.build 0x41 (List.replicate 219 0xFF)) State.reset) (fun t => t.txValid) = true :=
  ⟨⟨_, _, rfl, rfl⟩, by decide +kernel⟩
/-- 94 requests that all succeed, and a request that does not, from both ends of the counter's range. -/
theorem witness_SequencePeriod :
    (seqAt 0x22).seqLegal = true ∧ (seqAt 0x7F).seqLegal = true ∧
    (∀ r ∈ List.replicate 94 ((0x4A : Byte), ([] : List Byte)), payloadFits r.2 = true) ∧
    (∀ r ∈ List.replicate 94 ((0x4A : Byte), ([] : List Byte)), r.2.length ≤ 219) ∧
    (List.replicate 94 ((0x4A : Byte), ([] : List Byte))).length = 94 ∧
    payloadFits (List.replicate 220 0) = true := by decide +kernel
theorem witness_OnlyBuildAndResetUseSeqctr :
    Instr.decClear ≠ .reset ∧ (∀ cmd data, Instr.decClear ≠ .build cmd data) ∧
    ∃ t, exec .decClear State.reset = .next t := ⟨by decide, fun _ _ h => (by cases h), _, rfl⟩
theorem witness_RxByteRunsOneRow :
    (Instr.rxLenOk 0xFF).isRow = true ∧ (Instr.rxLenOk 0xFF).wellFormed = true ∧
    (Instr.rxLenOk 0xFF).rowState (decoderAt .readingLength 0 0 0 0).st = true ∧
    (Instr.rxLenOk 0xFF).rxOperand = some 0xFF := by decide +kernel
/-- A row offered in a state that a run reaches: in each state that bounds a count, at the end of that bound; and with
`SCNT = 6` and `CCNT = 4`, in the states that bound none. -/
theorem witness_RowsAreRxByte :
    Instr.rxIdleNak.isRow = true ∧ Instr.rxIdleNak.rxOperand = some 0x15 ∧
    ∀ s ∈ [decoderAt .readingData 212 211 0 0, decoderAt .readingStatus 212 212 5 0,
        decoderAt .readingChecksum 212 212 6 3, decoderAt .expectTerminator 212 212 6 4,
        decoderAt .expectPostamble 212 212 6 0, decoderAt .idle 212 212 6 4],
      s.inv = true ∧ s.stLegal = true ∧ (s.st = .readingData → s.dcnt.toNat < 212) ∧
      (s.st = .readingStatus → s.scnt.toNat < 6) ∧ (s.st = .readingChecksum → s.ccnt.toNat < 4) ∧
      (s.st = .expectTerminator → s.nlen.toNat ≤ 212) := by decide +kernel
theorem witness_IdleControlBytes : State.reset.st = .idle := rfl
theorem witness_IdleOtherByte :
    State.reset.st = .idle ∧ ((0x00 : Byte) ≠ 0x01 ∧ (0x00 : Byte) ≠ 0x15 ∧ (0x00 : Byte) ≠ 0x16) ∧
    ((0x17 : Byte) ≠ 0x01 ∧ (0x17 : Byte) ≠ 0x15 ∧ (0x17 : Byte) ≠ 0x16) := by decide
theorem witness_LengthByte :
    (decoderAt .readingLength 0 0 0 0).st = .readingLength ∧ 0x2B ≤ (0x2B : Byte).toNat ∧ 0x2B ≤ (0xFF : Byte).toNat ∧
    (0x2A : Byte).toNat < 0x2B ∧ (0x00 : Byte).toNat < 0x2B := by decide
theorem witness_SequenceAndCommandBytes :
    (decoderAt .readingSequence 0 0 0 0).st = .readingSequence ∧
    ((decoderAt .readingCommand 0 0 0 0).st = .readingCommand ∧ (decoderAt .readingCommand 0 0 0 0).nlen.toNat = 0) ∧
    ((decoderAt .readingCommand 1 0 0 0).st = .readingCommand ∧ 0 < (decoderAt .readingCommand 1 0 0 0).nlen.toNat) := by
  decide
theorem witness_PayloadByte :
    ((decoderAt .readingData 212 211 0 0).st = .readingData ∧ (decoderAt .readingData 212 211 0 0).dcnt.toNat < 212) ∧
    ((decoderAt .readingData 212 0 0 0).st = .readingData ∧ (decoderAt .readingData 212 0 0 0).dcnt.toNat < 212) := by
  decide
theorem witness_DelimiterByte :
    (decoderAt .expectDelimiter 0 0 0 0).st = .expectDelimiter ∧ (0x05 : Byte) ≠ 0x04 := by decide
theorem witness_StatusByte :
    ((decoderAt .readingStatus 0 0 5 0).st = .readingStatus ∧ (decoderAt .readingStatus 0 0 5 0).scnt.toNat < 6) ∧
    ((decoderAt .readingStatus 0 0 0 0).st = .readingStatus ∧ (decoderAt .readingStatus 0 0 0 0).scnt.toNat < 6) := by
  decide
theorem witness_PostambleByte :
    (decoderAt .expectPostamble 0 0 6 0).st = .expectPostamble ∧ (0x04 : Byte) ≠ 0x05 := by decide
theorem witness_ChecksumByte :
    ((decoderAt .readingChecksum 0 0 6 3).st = .readingChecksum ∧
      (decoderAt .readingChecksum 0 0 6 3).ccnt.toNat < 4) ∧
    ((decoderAt .readingChecksum 0 0 6 0).st = .readingChecksum ∧
      (decoderAt .readingChecksum 0 0 6 0).ccnt.toNat < 4) := by decide
theorem witness_TerminatorByte :
    ((decoderAt .expectTerminator 212 212 6 4).st = .expectTerminator ∧
      (decoderAt .expectTerminator 212 212 6 4).nlen.toNat ≤ 212) ∧
    (211 : Fin 212).val < (decoderAt .expectTerminator 212 212 6 4).nlen.toNat ∧ (0x04 : Byte) ≠ 0x03 := by decide
theorem witness_FaultedDropsBytes : (faultedWith .malformed).st = .faulted := rfl
theorem witness_ReservedStateRefuses :
    ({ State.reset with st := .reserved 0 } : State).st = .reserved 0 ∧
    ({ State.reset with st := .reserved 4 } : State).st = .reserved 4 ∧
    ∃ t, exec .nop { State.reset with st := .reserved 4 } = .next t ∧ t.st = .reserved 4 := ⟨rfl, rfl, _, rfl, rfl⟩
theorem witness_MissingEntryFaults :
    ((decoderAt .readingData 212 212 0 0).st = .readingData ∧ 212 ≤ (decoderAt .readingData 212 212 0 0).dcnt.toNat) ∧
    ((decoderAt .readingStatus 0 0 6 0).st = .readingStatus ∧ 6 ≤ (decoderAt .readingStatus 0 0 6 0).scnt.toNat) ∧
    ((decoderAt .readingChecksum 0 0 6 4).st = .readingChecksum ∧
      4 ≤ (decoderAt .readingChecksum 0 0 6 4).ccnt.toNat) ∧
    ((decoderAt .expectTerminator 213 0 6 4).st = .expectTerminator ∧
      212 < (decoderAt .expectTerminator 213 0 6 4).nlen.toNat) := by decide
theorem witness_FramingFaultIsPrecise :
    State.reset.st ≠ .faulted ∧
    ∃ t, exec (.rxByte 0x03) State.reset = .next t ∧ t.st = .faulted ∧ t.out = .fault .malformed :=
  ⟨by decide, _, rfl, rfl, rfl⟩
theorem witness_FaultedIsSticky :
    (faultedWith .malformed).st = .faulted ∧ Instr.rxByte 0x01 ≠ .reset ∧ Instr.rxByte 0x01 ≠ .decClear ∧
    (Instr.rxFaulted 0x01).rxOperand = some 0x01 ∧
    (Instr.build 0x41 []).encoderSide = true ∧ State.reset.seqctr = (faultedWith .malformed).seqctr := by decide
theorem witness_SidesCommute :
    (Instr.build 0x41 []).encoderSide = true ∧ (Instr.rxByte 0x15).decoderSide = true ∧
    ∃ u v, exec (.rxByte 0x15) State.reset = .next u ∧ exec (.build 0x41 []) u = .next v :=
  ⟨rfl, rfl, _, _, rfl, rfl⟩
/-- A state of each transparent kind, and two bytes that RX_BYTE completes on there. -/
theorem witness_TransparentStates :
    (∀ s ∈ [decoderAt .readingSequence 1 0 0 0, decoderAt .readingCommand 1 0 0 0, decoderAt .readingData 1 0 0 0,
        decoderAt .readingStatus 1 1 0 0, decoderAt .readingChecksum 1 1 6 0],
      (s.st = .readingSequence ∨ s.st = .readingCommand ∨ s.st = .readingData ∨ s.st = .readingStatus ∨
        s.st = .readingChecksum) ∧
      nextHas (exec (.rxByte 0x15) s) (fun _ => true) = true ∧ nextHas (exec (.rxByte 0x41) s) (fun _ => true) = true) ∧
    (decoderAt .readingLength 0 0 0 0).st = .readingLength ∧ (0x16 : Byte) ∈ [(0x01 : Byte), 0x03, 0x04, 0x05, 0x15, 0x16] := by
  decide +kernel
/-- Each clause at a state that meets the invariant, with the payload empty and at its largest. -/
theorem witness_PositionalArithmetic :
    ((decoderAt .readingData 212 211 0 0).inv = true ∧
      (decoderAt .readingData 212 211 0 0).nextPosition = some 215 ∧
      nextHas (exec (.rxByte 0x00) (decoderAt .readingData 212 211 0 0)) (fun _ => true) = true) ∧
    (State.reset.st = .idle ∧ nextHas (exec .rxIdlePreamble State.reset) (fun _ => true) = true) ∧
    ((decoderAt .expectDelimiter 212 212 0 0).inv = true ∧ (decoderAt .expectDelimiter 0 0 0 0).inv = true) ∧
    ((decoderAt .expectPostamble 212 212 6 0).inv = true ∧ (decoderAt .expectPostamble 0 0 6 0).inv = true) ∧
    ((decoderAt .expectTerminator 212 212 6 4).inv = true ∧ (decoderAt .expectTerminator 0 0 6 4).inv = true) := by
  decide +kernel

/-- The shortest and the longest inbound frame. -/
def shortFrame : InboundFrame := ⟨0x23, 0x4A, [], Vector.replicate 6 0, Vector.replicate 4 0x30⟩
def longFrame : InboundFrame := ⟨0x40, 0x99, List.replicate 212 0xAA, #v[1, 2, 3, 4, 5, 6], #v[0x30, 0x30, 0x30, 0x30]⟩

theorem witness_WellFormedFrame :
    shortFrame.fits = true ∧ longFrame.fits = true ∧ State.reset.st = .idle ∧ 16 ≤ 16 + shortFrame.data.length := by
  decide +kernel
theorem witness_CorruptedFrame :
    (shortFrame.fits = true ∧ State.reset.st = .idle) ∧
    (4 = 4 + shortFrame.data.length ∧ (0x05 : Byte) ≠ 0x04) ∧
    (11 = 11 + shortFrame.data.length ∧ (0x04 : Byte) ≠ 0x05) ∧
    (228 = 16 + longFrame.data.length ∧ longFrame.fits = true ∧ (0x04 : Byte) ≠ 0x03) ∧
    (2 ≤ 2 ∧ 2 < 4 + shortFrame.data.length) ∧ (2 ≤ 215 ∧ 215 < 4 + longFrame.data.length) ∧
    (5 + shortFrame.data.length ≤ 5 ∧ 5 < 11 + shortFrame.data.length ∧ 10 < 11 + shortFrame.data.length) ∧
    (12 + shortFrame.data.length ≤ 12 ∧ 12 < 16 + shortFrame.data.length ∧ 15 < 16 + shortFrame.data.length) := by
  decide +kernel
theorem witness_FramesBackToBack :
    State.reset.st = .idle ∧
    ∀ x ∈ [([(0x15 : Byte)], shortFrame), ([0x16, 0x15], longFrame)],
      x.2.fits = true ∧ ∀ b ∈ x.1, b = 0x15 ∨ b = 0x16 := by decide +kernel
theorem witness_StepKeepsInvariant :
    ((decoderAt .readingData 212 211 0 0).offer [deliver 0x15]).inv = true ∧
    nextHas (step ((decoderAt .readingData 212 211 0 0).offer [deliver 0x15])) (fun t => t.st == .expectDelimiter) = true := by
  decide +kernel
theorem witness_StepNeverStops : (decoderAt .expectTerminator 212 212 6 4).inv = true := by decide +kernel
/-- The terminator clause, with the payload empty and at its largest. -/
theorem witness_StatusPacking :
    ((decoderAt .expectTerminator 0 0 6 4).st = .expectTerminator ∧
      (decoderAt .expectTerminator 0 0 6 4).nlen.toNat ≤ 212) ∧
    ((decoderAt .expectTerminator 212 212 6 4).st = .expectTerminator ∧
      (decoderAt .expectTerminator 212 212 6 4).nlen.toNat ≤ 212) := by decide
/-- Blocks that differ in every unused bit, and blocks that differ in a gate alone. -/
theorem witness_StatusIndependence :
    ((0xD0 : Byte) &&& 0x2F = 0x00 &&& 0x2F ∧ (0xFC : Byte) &&& 0x03 = 0x00 &&& 0x03 ∧
      (0xD6 : Byte) &&& 0x29 = 0x00 &&& 0x29 ∧ (0xC0 : Byte) &&& 0x3F = 0x00 &&& 0x3F ∧
      (0xE4 : Byte) &&& 0x1B = 0x00 &&& 0x1B) ∧
    ((0x20 : Byte) &&& 0xDF = 0x00 &&& 0xDF) := by decide
theorem witness_GateAndCodesApart :
    ((0x01 : Byte)[5] = false ∧ (0x11 : Byte)[5] = false) ∧
    ((0x20 : Byte)[5] = true ∧ (0x20 : Byte) &&& 0x03 = 0 ∧ (0xFC : Byte) &&& 0x03 = 0 ∧ (0xFE : Byte) &&& 0x01 = 0) ∧
    ((0x2E : Byte)[5] = true ∧ (0x2E : Byte) &&& 0x11 = 0 ∧ (0xFE : Byte) &&& 0x01 = 0) := by decide

end Sys2Proof.Tests
end

section
/-! What each value of `op` selects (30_encoding.md R91), one lemma per row of the table, and the two transactions of
R88 that touch no register. -/

namespace Sys2Proof

variable {p : Ports}

theorem decode_of_selects_nop (h : p.selects 0b000) : decode p = .nop := by
  obtain ⟨hrst, hop⟩ := h
  simp [decode, hrst, hop]

theorem decode_of_selects_rxByte (h : p.selects 0b001) : decode p = .rxByte p.rxByte := by
  obtain ⟨hrst, hop⟩ := h
  simp [decode, hrst, hop]

theorem decode_of_selects_build (h : p.selects 0b010) : decode p = .build p.cmd (payloadOf p.nIn p.dataIn) := by
  obtain ⟨hrst, hop⟩ := h
  simp [decode, hrst, hop]

theorem decode_of_selects_cksumCompute (h : p.selects 0b011) :
    decode p = .cksumCompute p.lenIn p.seqIn p.cmd (payloadOf p.nIn p.dataIn) := by
  obtain ⟨hrst, hop⟩ := h
  simp [decode, hrst, hop]

theorem decode_of_selects_cksumDecode (h : p.selects 0b100) :
    decode p = .cksumDecode p.ckIn[0] p.ckIn[1] p.ckIn[2] p.ckIn[3] := by
  obtain ⟨hrst, hop⟩ := h
  simp [decode, hrst, hop]

theorem decode_of_selects_statusDecode (h : p.selects 0b101) :
    decode p = .statusDecode p.stIn[0] p.stIn[1] p.stIn[2] p.stIn[3] p.stIn[4] p.stIn[5] := by
  obtain ⟨hrst, hop⟩ := h
  simp [decode, hrst, hop]

theorem decode_of_selects_decClear (h : p.selects 0b110) : decode p = .decClear := by
  obtain ⟨hrst, hop⟩ := h
  simp [decode, hrst, hop]

theorem decode_of_selects_reservedOp (h : p.selects 0b111) : decode p = .reservedOp := by
  obtain ⟨hrst, hop⟩ := h
  simp [decode, hrst, hop]

/-- The payload on the ports: `n_in` entries, those below index 219 read from `data_in` (R93). -/
theorem payloadOf_spec (n : Byte) (d : Vector Byte 219) :
    (payloadOf n d).length = n.toNat ∧ ∀ k : Fin 219, k.val < n.toNat → (payloadOf n d)[k.val]? = some d[k] :=
  ⟨length_payloadOf n d, fun k hk => getElem?_payloadOf n d hk k.isLt⟩

end Sys2Proof

namespace Sys2Proof.Machine

open Sys2Proof

theorem exec_nop (s : State) : exec .nop s = .next { s with out := .quiet } := rfl

theorem exec_reservedOp (s : State) : exec .reservedOp s = .next { s with out := .err .oeReserved } := rfl

/-- Settles O3: each row of R91's table is a `decode_of_selects` lemma; the payload is that of `payloadOf_spec`. -/
theorem opSelectsTransaction : Obligations.OpSelectsTransaction := by
  intro p
  refine ⟨decode_of_rst, fun hrst => ⟨?nop, ?rxByte, ?build, ?cksumCompute, ?cksumDecode, ?statusDecode, ?decClear,
    ?reservedOp⟩⟩
  case nop => exact fun hop => decode_of_selects_nop ⟨hrst, hop⟩
  case rxByte => exact fun hop => decode_of_selects_rxByte ⟨hrst, hop⟩
  case build => exact fun hop => ⟨_, decode_of_selects_build ⟨hrst, hop⟩, payloadOf_spec p.nIn p.dataIn⟩
  case cksumCompute => exact fun hop => ⟨_, decode_of_selects_cksumCompute ⟨hrst, hop⟩, payloadOf_spec p.nIn p.dataIn⟩
  case cksumDecode => exact fun hop => decode_of_selects_cksumDecode ⟨hrst, hop⟩
  case statusDecode => exact fun hop => decode_of_selects_statusDecode ⟨hrst, hop⟩
  case decClear => exact fun hop => decode_of_selects_decClear ⟨hrst, hop⟩
  case reservedOp =>
    intro hop
    have hdec := decode_of_selects_reservedOp (p := p) ⟨hrst, hop⟩
    exact ⟨hdec, fun s => by rw [hdec, exec_reservedOp]⟩

/-- Settles O11: the two transactions change the output alone, and `decode` selects each by its `op`. -/
theorem nullStepAndReservedOp : Obligations.NullStepAndReservedOp := fun s =>
  ⟨exec_nop s, exec_reservedOp s, fun _ hrst =>
    ⟨fun hop => decode_of_selects_nop ⟨hrst, hop⟩, fun hop => decode_of_selects_reservedOp ⟨hrst, hop⟩⟩⟩

end Sys2Proof.Machine
end

section
/-! Where the fields of a built frame stand (41_encoder.md R131, 30_encoding.md R70), and that its four checksum bytes
decode to the sum of the bytes R114 names. -/

namespace Sys2Proof.Machine

open Sys2Proof

/-- A BUILD that answers with a frame had a payload in range, and the frame is `Frame` of the old `SEQCTR`. -/
theorem txFrame_of_exec_build {cmd : Byte} {data f : List Byte} {s t : State}
    (h : exec (.build cmd data) s = .next t) (hout : t.out = .txFrame f) :
    data.length ≤ 219 ∧ f = outFrame s.seqctr cmd data := by
  simp only [exec, execBuild] at h
  split at h
  case isTrue hok =>
    cases h
    cases hout
    exact ⟨of_decide_eq_true hok, rfl⟩
  case isFalse =>
    cases h
    cases hout

/-- CKSUM_DECODE of the four digits of a 16-bit value gives the value back. -/
theorem exec_cksumDecode_enc4 {v : Nat} (h : v < 65536) (s : State) :
    exec (.cksumDecode (enc4 v)[0] (enc4 v)[1] (enc4 v)[2] (enc4 v)[3]) s =
      .next (s.emit (.bcc (BitVec.ofNat 16 v))) := by
  have hdigits : (isDigit (enc4 v)[0] && isDigit (enc4 v)[1] && isDigit (enc4 v)[2] && isDigit (enc4 v)[3]) = true := by
    simp only [Bool.and_eq_true]
    exact ⟨⟨⟨isDigit_enc4 h 0, isDigit_enc4 h 1⟩, isDigit_enc4 h 2⟩, isDigit_enc4 h 3⟩
  simp only [exec, execCksumDecode, hdigits, if_true, dec4_enc4 h, Config.bccW]

/-- The length byte of a built frame (R131). -/
def outLenByte (data : List Byte) : Byte := BitVec.ofNat 8 (0x24 + data.length)

/-- The sum a built frame carries in its checksum bytes. -/
def outFrameSum (sq cmd : Byte) (data : List Byte) : Nat := bccSum (outLenByte data) sq cmd data

theorem outFrameSum_lt {data : List Byte} (h : data.length ≤ 219) (sq cmd : Byte) :
    outFrameSum sq cmd data < 65536 := by
  have hsum := bccSum_le h (outLenByte data) sq cmd
  have hl := (outLenByte data).isLt
  have hsq := sq.isLt
  have hcmd := cmd.isLt
  simp only [outFrameSum]
  omega

theorem outFrame_eq (sq cmd : Byte) (data : List Byte) :
    outFrame sq cmd data = 0x01 :: outLenByte data :: sq :: cmd ::
      (data ++ 0x05 :: ((enc4 (outFrameSum sq cmd data)).toList ++ [0x03])) := by
  simp [outFrame, outFrameSum, outLenByte, Config.lenBiasOut]

section
variable (sq cmd : Byte) (data : List Byte)

theorem outFrame_payload {k : Nat} (h : k < data.length) : (outFrame sq cmd data)[4 + k]? = data[k]? := by
  rw [outFrame_eq, Nat.add_comm]
  simp [List.getElem?_append_left h]

theorem outFrame_postamble : (outFrame sq cmd data)[4 + data.length]? = some 0x05 := by
  rw [outFrame_eq, Nat.add_comm]
  simp

theorem outFrame_terminator : (outFrame sq cmd data)[9 + data.length]? = some 0x03 := by
  rw [outFrame_eq, show 9 + data.length = data.length + 5 + 4 by omega]
  simp

/-- The checksum bytes stand at the positions `5 + N` to `8 + N` (R70). -/
theorem outFrame_checksum : ((outFrame sq cmd data).drop (5 + data.length)).take 4 =
    (enc4 (outFrameSum sq cmd data)).toList := by
  rw [outFrame_eq, show 5 + data.length = data.length + 1 + 4 by omega]
  simp

/-- The bytes at the positions 1 to `4 + N` are those the checksum covers (R114). -/
theorem outFrame_covered : ((outFrame sq cmd data).drop 1).take (4 + data.length) =
    outLenByte data :: sq :: cmd :: (data ++ [0x05]) := by
  rw [outFrame_eq, show 4 + data.length = data.length + 1 + 3 by omega]
  simp [List.take_append]

theorem sum_outFrame_covered :
    ((((outFrame sq cmd data).drop 1).take (4 + data.length)).map BitVec.toNat).sum = outFrameSum sq cmd data := by
  rw [outFrame_covered, outFrameSum, bccSum_eq]
  simp
  omega

end

/-- Settles O21: the frame is `outFrame`, whose fields the lemmas above place; the sum it carries is below `2^16`, so
CKSUM_DECODE gives it back whole. -/
theorem builtFrameLayout : Obligations.BuiltFrameLayout := by
  intro cmd data f s t h hout
  obtain ⟨hlen, rfl⟩ := txFrame_of_exec_build h hout
  have hv := outFrameSum_lt hlen s.seqctr cmd
  refine ⟨hlen, length_outFrame _ _ _, rfl, rfl, rfl, rfl, fun k hk => outFrame_payload _ _ _ hk,
    outFrame_postamble _ _ _, outFrame_terminator _ _ _, _, _, _, _, _, _, ?checksum, exec_cksumDecode_enc4 hv t, rfl,
    ?sum⟩
  case checksum => exact outFrame_checksum _ _ _
  case sum => rw [sum_outFrame_covered, BitVec.toNat_ofNat, Nat.mod_eq_of_lt hv]

end Sys2Proof.Machine
end

section
/-! Which bits of a status block each result of the StatusDecoder reads (43_status.md R201 to R223), as equalities under
a mask; and a block for every combination of faults and conditions. -/

namespace Sys2Proof.Machine

open Sys2Proof

/-- Bytes that agree under a mask agree under every part of it. -/
theorem and_eq_of_submask {x y M m : Byte} (h : x &&& M = y &&& M) (hm : M &&& m = m) : x &&& m = y &&& m := by
  rw [← hm, ← BitVec.and_assoc, ← BitVec.and_assoc, h]

/-- A bit inside a mask is the same in bytes that agree under the mask. -/
theorem bit_congr {x y M m : Byte} (h : x &&& M = y &&& M) (hm : M &&& m = m) : bit x m = bit y m := by
  rw [bit, bit, and_eq_of_submask h hm]

section
variable {b₁ b₂ : Vector Byte 6}

theorem gateFatal_congr (h0 : b₁[0] &&& 0x20 = b₂[0] &&& 0x20) : gateFatal b₁ = gateFatal b₂ :=
  bit_congr h0 rfl

theorem gateFm_congr (h4 : b₁[4] &&& 0x20 = b₂[4] &&& 0x20) : gateFm b₁ = gateFm b₂ :=
  bit_congr h4 rfl

/-- The fault codes of group 1 read the bits 0x23 of byte0, 0x03 of byte1 and 0x01 of byte2 (R203 to R207). -/
theorem faultHolds_congr_fatal (h0 : b₁[0] &&& 0x23 = b₂[0] &&& 0x23) (h1 : b₁[1] &&& 0x03 = b₂[1] &&& 0x03)
    (h2 : b₁[2] &&& 0x01 = b₂[2] &&& 0x01) :
    ∀ k ∈ [DeviceFault.invalidCommand, .syntaxError, .notAllowedInMode, .arithOverflow, .outOfPaper],
      faultHolds b₁ k = faultHolds b₂ k := by
  have hg : gateFatal b₁ = gateFatal b₂ := gateFatal_congr (and_eq_of_submask h0 rfl)
  have hcode {x y M m : Byte} (h : x &&& M = y &&& M) (hm : M &&& m = m) :
      (gateFatal b₁ && bit x m) = (gateFatal b₂ && bit y m) := by rw [hg, bit_congr h hm]
  simp only [List.forall_mem_cons]
  exact ⟨hcode h0 rfl, hcode h0 rfl, hcode h1 rfl, hcode h1 rfl, hcode h2 rfl, List.forall_mem_nil _⟩

/-- The fault codes of group 2 read the bits 0x31 of byte4 and 0x01 of byte5 (R208 to R210). -/
theorem faultHolds_congr_fm (h4 : b₁[4] &&& 0x31 = b₂[4] &&& 0x31) (h5 : b₁[5] &&& 0x01 = b₂[5] &&& 0x01) :
    ∀ k ∈ [DeviceFault.fmWriteError, .fmFull, .fmReadOnly], faultHolds b₁ k = faultHolds b₂ k := by
  have hg : gateFm b₁ = gateFm b₂ := gateFm_congr (and_eq_of_submask h4 rfl)
  have hcode {x y M m : Byte} (h : x &&& M = y &&& M) (hm : M &&& m = m) :
      (gateFm b₁ && bit x m) = (gateFm b₂ && bit y m) := by rw [hg, bit_congr h hm]
  simp only [List.forall_mem_cons]
  exact ⟨hcode h4 rfl, hcode h4 rfl, hcode h5 rfl, List.forall_mem_nil _⟩

/-- The conditions read the bits 0x0C of byte0, 0x28 of byte2, 0x0E of byte4 and 0x1A of byte5 (R212 to R221). -/
theorem condHolds_congr (h0 : b₁[0] &&& 0x0C = b₂[0] &&& 0x0C) (h2 : b₁[2] &&& 0x28 = b₂[2] &&& 0x28)
    (h4 : b₁[4] &&& 0x0E = b₂[4] &&& 0x0E) (h5 : b₁[5] &&& 0x1A = b₂[5] &&& 0x1A) :
    condHolds b₁ = condHolds b₂ := by
  funext c
  cases c with
  | displayDisconnected | datetimeNotSet => exact bit_congr h0 rfl
  | nonfiscalReceiptOpen | fiscalReceiptOpen => exact bit_congr h2 rfl
  | fmLowBlocks | ibfm | pib => exact bit_congr h4 rfl
  | taxGroupsSet | fiscalMode | fmFormatted => exact bit_congr h5 rfl

theorem condSet_congr (h : condHolds b₁ = condHolds b₂) : (statusDecode b₁).condSet = (statusDecode b₂).condSet := by
  simp only [statusDecode, h]

theorem mem_faultSet_congr {k : DeviceFault} (h : faultHolds b₁ k = faultHolds b₂ k) :
    k ∈ (statusDecode b₁).faultSet ↔ k ∈ (statusDecode b₂).faultSet := by
  rw [mem_faultSet, mem_faultSet, h]

/-- Nothing of the result depends on a bit outside the 20 assigned ones (R81). -/
theorem statusDecode_congr (h0 : b₁[0] &&& 0x2F = b₂[0] &&& 0x2F) (h1 : b₁[1] &&& 0x03 = b₂[1] &&& 0x03)
    (h2 : b₁[2] &&& 0x29 = b₂[2] &&& 0x29) (h4 : b₁[4] &&& 0x3F = b₂[4] &&& 0x3F)
    (h5 : b₁[5] &&& 0x1B = b₂[5] &&& 0x1B) : statusDecode b₁ = statusDecode b₂ := by
  have hfatal : gateFatal b₁ = gateFatal b₂ := gateFatal_congr (and_eq_of_submask h0 rfl)
  have hfm : gateFm b₁ = gateFm b₂ := gateFm_congr (and_eq_of_submask h4 rfl)
  have hcond : condHolds b₁ = condHolds b₂ :=
    condHolds_congr (and_eq_of_submask h0 rfl) (and_eq_of_submask h2 rfl) (and_eq_of_submask h4 rfl)
      (and_eq_of_submask h5 rfl)
  have hgroup1 := faultHolds_congr_fatal (and_eq_of_submask h0 rfl) h1 (and_eq_of_submask h2 rfl)
  have hgroup2 := faultHolds_congr_fm (and_eq_of_submask h4 rfl) (and_eq_of_submask h5 rfl)
  have hfault : faultHolds b₁ = faultHolds b₂ := by
    funext k
    cases k with
    | invalidCommand | syntaxError | notAllowedInMode | arithOverflow | outOfPaper => exact hgroup1 _ (by decide)
    | fmWriteError | fmFull | fmReadOnly => exact hgroup2 _ (by decide)
  simp only [statusDecode, hfatal, hfm, hcond, hfault]

end

/-- The mask `m` when `c` holds, and no bit otherwise. -/
def maskIf (c : Bool) (m : Byte) : Byte := if c then m else 0

theorem bit_or (x y m : Byte) : bit (x ||| y) m = (bit x m || bit y m) := by
  rw [Bool.eq_iff_iff]
  simp only [bit, BitVec.and_or_distrib_right, bne_iff_ne, Bool.or_eq_true, ne_eq, ← not_and_or]
  exact not_congr BitVec.or_eq_zero_iff

theorem bit_maskIf (c : Bool) (m n : Byte) : bit (maskIf c m) n = (c && bit m n) := by
  cases c
  · simp [maskIf, bit]
  · rfl

/-- A status block with both gates set, the code bits of the faults in `p` and the bits of the conditions in `q`. -/
def statusBlockOf (p : DeviceFault → Bool) (q : Condition → Bool) : Vector Byte 6 :=
  #v[0x20 ||| maskIf (p .invalidCommand) 0x02 ||| maskIf (p .syntaxError) 0x01
        ||| maskIf (q .displayDisconnected) 0x08 ||| maskIf (q .datetimeNotSet) 0x04,
     maskIf (p .notAllowedInMode) 0x02 ||| maskIf (p .arithOverflow) 0x01,
     maskIf (p .outOfPaper) 0x01 ||| maskIf (q .nonfiscalReceiptOpen) 0x20 ||| maskIf (q .fiscalReceiptOpen) 0x08,
     0,
     0x20 ||| maskIf (p .fmWriteError) 0x01 ||| maskIf (p .fmFull) 0x10 ||| maskIf (q .fmLowBlocks) 0x08
        ||| maskIf (q .ibfm) 0x04 ||| maskIf (q .pib) 0x02,
     maskIf (p .fmReadOnly) 0x01 ||| maskIf (q .taxGroupsSet) 0x10 ||| maskIf (q .fiscalMode) 0x08
        ||| maskIf (q .fmFormatted) 0x02]

/-- `bit_or` and `bit_maskIf` leave tests of literal masks, which `bit` evaluates. -/
theorem faultHolds_statusBlockOf (p : DeviceFault → Bool) (q : Condition → Bool) (k : DeviceFault) :
    faultHolds (statusBlockOf p q) k = p k := by
  cases k <;> simp [faultHolds, gateFatal, gateFm, statusBlockOf, bit_or, bit_maskIf] <;> simp [bit]

theorem condHolds_statusBlockOf (p : DeviceFault → Bool) (q : Condition → Bool) (c : Condition) :
    condHolds (statusBlockOf p q) c = q c := by
  cases c <;> simp [condHolds, statusBlockOf, bit_or, bit_maskIf] <;> simp [bit]

/-- Settles O54: each result reads its own masked bits (the `congr` lemmas above), and `statusBlockOf` gives every
combination. -/
theorem statusIndependence : Obligations.StatusIndependence := by
  refine ⟨fun _ _ => statusDecode_congr, ?independence, ?combinations⟩
  case independence =>
    intro s0 s1 s2 s3 s4 s5 w x y z hx hy
    refine ⟨?condSet, ?faultSet, gateFm_congr rfl, gateFatal_congr rfl, fun k hk => ?fmCodes, fun k hk => ?fatalCodes⟩
    case condSet =>
      exact condSet_congr (condHolds_congr (and_eq_of_submask hx rfl) rfl (and_eq_of_submask hy rfl) rfl)
    case faultSet => exact congrArg StatusResult.faultSet (statusDecode_congr rfl rfl rfl rfl rfl)
    case fmCodes => exact mem_faultSet_congr (faultHolds_congr_fm (by rfl) (by rfl) k hk)
    case fatalCodes => exact mem_faultSet_congr (faultHolds_congr_fatal (by rfl) (by rfl) (by rfl) k hk)
  case combinations =>
    intro p q
    refine ⟨statusBlockOf p q, fun k => ?_, fun c => ?_⟩
    · rw [mem_faultSet, faultHolds_statusBlockOf]
    · rw [mem_condSet, condHolds_statusBlockOf]

end Sys2Proof.Machine
end

section
/-! What CKSUM_COMPUTE and CKSUM_DECODE answer (40_checksum.md R110 to R118): each is its operands' output, put on the
output ports of whatever state it runs in. -/

namespace Sys2Proof

/-- Ports that carry a payload within `data_in` give it back whole. -/
theorem payloadOf_of_carries {p : Ports} {data : List Byte} (h : p.carries data) (hlen : data.length ≤ 219) :
    payloadOf p.nIn p.dataIn = data := by
  obtain ⟨hn, hentry⟩ := h
  apply List.ext_getElem?
  intro k
  by_cases hk : k < data.length
  · rw [getElem?_payloadOf _ _ (hn ▸ hk) (Nat.lt_of_lt_of_le hk hlen)]
    exact (hentry ⟨k, by omega⟩ hk).symm
  · rw [List.getElem?_eq_none (by rw [length_payloadOf]; omega), List.getElem?_eq_none (by omega)]

end Sys2Proof

namespace Sys2Proof.Machine

open Sys2Proof

/-- The output of CKSUM_COMPUTE, a function of its operands alone (R118). -/
def cksumComputeOut (lb sq cmd : Byte) (data : List Byte) : Output :=
  if data.length ≤ 219 then .cksum (enc4 (bccSum lb sq cmd data)) else .err .ceTooLong

/-- The output of CKSUM_DECODE, a function of its operands alone (R118). -/
def cksumDecodeOut (c0 c1 c2 c3 : Byte) : Output :=
  if isDigit c0 ∧ isDigit c1 ∧ isDigit c2 ∧ isDigit c3 then .bcc (BitVec.ofNat 16 (dec4 c0 c1 c2 c3))
  else .err .ceBadDigit

section
variable {lb sq cmd c0 c1 c2 c3 : Byte} {data : List Byte}

theorem exec_cksumCompute (s : State) :
    exec (.cksumCompute lb sq cmd data) s = .next { s with out := cksumComputeOut lb sq cmd data } := by
  by_cases h : data.length ≤ 219
  · simp [exec, execCksumCompute, cksumComputeOut, payloadOk, h, State.emit]
  · simp [exec, execCksumCompute, cksumComputeOut, payloadOk, h, State.answerErr, State.emit]

theorem exec_cksumDecode (s : State) :
    exec (.cksumDecode c0 c1 c2 c3) s = .next { s with out := cksumDecodeOut c0 c1 c2 c3 } := by
  by_cases h : isDigit c0 ∧ isDigit c1 ∧ isDigit c2 ∧ isDigit c3
  · simp [exec, execCksumDecode, cksumDecodeOut, h, State.emit]
  · simp [exec, execCksumDecode, cksumDecodeOut, h, and_assoc, State.answerErr, State.emit]

theorem cksumComputeOut_of_le (h : data.length ≤ 219) :
    cksumComputeOut lb sq cmd data = .cksum (enc4 (bccSum lb sq cmd data)) := if_pos h

theorem cksumComputeOut_of_lt (h : 219 < data.length) : cksumComputeOut lb sq cmd data = .err .ceTooLong :=
  if_neg (Nat.not_le.2 h)

/-- A checksum comes out of a payload in range, and is that of the sum. -/
theorem of_cksumComputeOut_eq_cksum {ck : Vector Byte 4} (h : cksumComputeOut lb sq cmd data = .cksum ck) :
    data.length ≤ 219 ∧ enc4 (bccSum lb sq cmd data) = ck := by
  rcases Nat.lt_or_ge 219 data.length with hlen | hlen
  · rw [cksumComputeOut_of_lt hlen] at h
    cases h
  · rw [cksumComputeOut_of_le hlen] at h
    cases h
    exact ⟨hlen, rfl⟩

/-- Four digits are read as a value that `Enc4` turns back into them; that value fits the 16 bits of `bcc_out`. -/
theorem cksumDecodeOut_of_isDigit (h0 : isDigit c0 = true) (h1 : isDigit c1 = true) (h2 : isDigit c2 = true)
    (h3 : isDigit c3 = true) :
    ∃ v : BitVec 16, v.toNat = dec4 c0 c1 c2 c3 ∧ cksumDecodeOut c0 c1 c2 c3 = .bcc v :=
  ⟨_, by rw [BitVec.toNat_ofNat, Nat.mod_eq_of_lt (dec4_lt h0 h1 h2 h3)], if_pos ⟨h0, h1, h2, h3⟩⟩

theorem cksumDecodeOut_of_not_isDigit (h : ∃ c ∈ [c0, c1, c2, c3], isDigit c = false) :
    cksumDecodeOut c0 c1 c2 c3 = .err .ceBadDigit := by
  refine if_neg fun ⟨h0, h1, h2, h3⟩ => ?_
  simp [h0, h1, h2, h3] at h

/-- A value comes out of four digits alone, and `Enc4` turns it back into them. -/
theorem enc4_of_cksumDecodeOut_eq_bcc {v : BitVec 16} (h : cksumDecodeOut c0 c1 c2 c3 = .bcc v) :
    enc4 v.toNat = #v[c0, c1, c2, c3] := by
  by_cases hdigits : isDigit c0 ∧ isDigit c1 ∧ isDigit c2 ∧ isDigit c3
  · obtain ⟨h0, h1, h2, h3⟩ := hdigits
    obtain ⟨w, hw, hout⟩ := cksumDecodeOut_of_isDigit h0 h1 h2 h3
    cases hout.symm.trans h
    rw [hw, enc4_dec4 h0 h1 h2 h3]
  · cases (if_neg hdigits).symm.trans h

/-- The sum's bound for every operand (R113). -/
theorem bccSum_le_max (h : data.length ≤ 219) : bccSum lb sq cmd data ≤ 56615 := by
  have hsum := bccSum_le h lb sq cmd
  have hlb := lb.isLt
  have hsq := sq.isLt
  have hcmd := cmd.isLt
  omega

/-- The first digit of a sum within R113's bound is at most 13. -/
theorem enc4_first_toNat_le {v : Nat} (h : v ≤ 56615) : (enc4 v)[0].toNat ≤ 0x3D := by
  have hfirst : (enc4 v)[0] = digitByte (v / 4096) := rfl
  rw [hfirst, digitByte_toNat (by omega)]
  omega

end

/-- Settles O17: each operand byte adds at most 255, and `Enc4`'s digits are digits of a sum below `2^16`. -/
theorem cksumSumBounds : Obligations.CksumSumBounds := by
  refine ⟨fun lb sq cmd data hlen => ?all, ?allReached, fun sq cmd data hlen hsq => ?built, ?builtReached⟩
  case all =>
    have hsum : bccSum lb sq cmd data ≤ 56615 := bccSum_le_max hlen
    exact ⟨hsum, fun k => (isDigit_iff _).1 (isDigit_enc4 (by omega) k), enc4_first_toNat_le hsum⟩
  case allReached => rw [bccSum_eq, List.map_replicate, List.sum_replicate_nat]; rfl
  case built =>
    have hsum := bccSum_le hlen (BitVec.ofNat 8 (0x24 + data.length)) sq cmd
    have hlb := (BitVec.ofNat 8 (0x24 + data.length)).isLt
    have hcmd := cmd.isLt
    omega
  case builtReached => rw [bccSum_eq, List.map_replicate, List.sum_replicate_nat]; rfl

/-- Settles O18: `dec4` and `enc4` are inverse on 16-bit values and on digits; a sum the block forms is such a value. -/
theorem checksumRoundTrip : Obligations.ChecksumRoundTrip := by
  refine ⟨fun v s hv => exec_cksumDecode_enc4 (by omega) s, fun c0 c1 c2 c3 s t v hexec hout => ?digits,
    fun lb sq cmd data s t ck hexec hout => ?computed⟩
  case digits =>
    cases (exec_cksumDecode s).symm.trans hexec
    exact enc4_of_cksumDecodeOut_eq_bcc hout
  case computed =>
    cases (exec_cksumCompute s).symm.trans hexec
    obtain ⟨hlen, rfl⟩ := of_cksumComputeOut_eq_cksum hout
    have hsum : bccSum lb sq cmd data < 65536 := Nat.lt_of_le_of_lt (bccSum_le_max hlen) (by decide)
    refine ⟨_, _, exec_cksumDecode_enc4 hsum _, rfl, ?_⟩
    rw [BitVec.toNat_ofNat, Nat.mod_eq_of_lt hsum]

/-- Settles O15: the answer is `cksumComputeOut`, and the ports carry the payload whole, or one that is too long. -/
theorem cksumComputeResult : Obligations.CksumComputeResult := by
  intro lb sq cmd data s v ck hv hck
  have hdigits : enc4 (bccSum lb sq cmd data) = ck := by rw [hck, hv, bccSum_eq, enc4_eq]; rfl
  refine ⟨fun hlen => ⟨?_, rfl⟩, fun hlen => ?_, ?ports⟩
  · rw [exec_cksumCompute, cksumComputeOut_of_le hlen, hdigits]
  · rw [exec_cksumCompute, cksumComputeOut_of_lt hlen]
  case ports =>
    rintro p hsel rfl rfl rfl hcarries
    rw [decode_of_selects_cksumCompute hsel]
    rcases Nat.lt_or_ge 219 data.length with hlong | hlen
    · obtain ⟨hn, -⟩ := hcarries
      have hlong' : 219 < (payloadOf p.nIn p.dataIn).length := by rwa [length_payloadOf, hn]
      rw [exec_cksumCompute, exec_cksumCompute, cksumComputeOut_of_lt hlong, cksumComputeOut_of_lt hlong']
    · rw [payloadOf_of_carries hcarries hlen]

/-- Settles O16: the answer is `cksumDecodeOut`, whose two cases are those of `isDigit`. -/
theorem cksumDecodeResult : Obligations.CksumDecodeResult := by
  intro c0 c1 c2 c3 s
  refine ⟨fun hdigits => ?value, fun ⟨c, hc, hrange⟩ => ?bad, fun p hsel hck => ?ports⟩
  case value =>
    simp only [List.forall_mem_cons, ← isDigit_iff] at hdigits
    obtain ⟨h0, h1, h2, h3, -⟩ := hdigits
    obtain ⟨v, hv, hout⟩ := cksumDecodeOut_of_isDigit h0 h1 h2 h3
    exact ⟨v, hv, by rw [exec_cksumDecode, hout], rfl⟩
  case bad =>
    have hc' : isDigit c = false := by rw [Bool.eq_false_iff, ne_eq, isDigit_iff]; omega
    rw [exec_cksumDecode, cksumDecodeOut_of_not_isDigit ⟨c, hc, hc'⟩]
  case ports =>
    rw [decode_of_selects_cksumDecode hsel, hck]
    rfl

/-- Settles O19: `cksumComputeOut` and `cksumDecodeOut` take no state. -/
theorem checksumReadsNoRegister : Obligations.ChecksumReadsNoRegister := by
  rintro i s u (⟨lb, sq, cmd, data, rfl⟩ | ⟨c0, c1, c2, c3, rfl⟩)
  · exact ⟨_, exec_cksumCompute s, exec_cksumCompute u⟩
  · exact ⟨_, exec_cksumDecode s, exec_cksumDecode u⟩

end Sys2Proof.Machine
end

section
/-! What BUILD answers and what it does to `SEQCTR` (41_encoder.md R130 to R133): an output and a next counter value,
each a function of the old counter and the operands. -/

namespace Sys2Proof

/-- Ports that carry a payload give it back whole, or give back one that is too long as well. -/
theorem payloadOf_of_carries_or_long {p : Ports} {data : List Byte} (h : p.carries data) :
    payloadOf p.nIn p.dataIn = data ∨ 219 < data.length ∧ 219 < (payloadOf p.nIn p.dataIn).length := by
  rcases Nat.lt_or_ge 219 data.length with hlong | hlen
  · obtain ⟨hn, -⟩ := h
    exact .inr ⟨hlong, by rwa [length_payloadOf, hn]⟩
  · exact .inl (payloadOf_of_carries h hlen)

theorem decode_encode_build {cmd : Byte} {data : List Byte} (h : payloadFits data = true) :
    decode (encode (.build cmd data)) = .build cmd data := by
  have hsel : (encode (.build cmd data)).selects 0b010 := ⟨rfl, rfl⟩
  rw [decode_of_selects_build hsel]
  exact congrArg (Instr.build cmd) (payloadOf_payloadPort h)

end Sys2Proof

namespace Sys2Proof.Machine

open Sys2Proof

/-- The output of BUILD with `SEQCTR = sq` (R131, R133). -/
def buildOut (sq cmd : Byte) (data : List Byte) : Output :=
  if data.length ≤ 219 then .txFrame (outFrame sq cmd data) else .err .beTooLong

/-- `SEQCTR` after a BUILD with `SEQCTR = sq` (R132, R133). -/
def buildSeq (sq : Byte) (data : List Byte) : Byte := if data.length ≤ 219 then nextSeq sq else sq

section
variable {cmd sq : Byte} {data : List Byte}

theorem exec_build (s : State) : exec (.build cmd data) s =
    .next { s with seqctr := buildSeq s.seqctr data, out := buildOut s.seqctr cmd data } := by
  by_cases h : data.length ≤ 219
  · simp [exec, execBuild, buildOut, buildSeq, payloadOk, h, State.emit]
  · simp [exec, execBuild, buildOut, buildSeq, payloadOk, h, State.answerErr, State.emit]

theorem buildOut_of_le (h : data.length ≤ 219) : buildOut sq cmd data = .txFrame (outFrame sq cmd data) := if_pos h

theorem buildOut_of_lt (h : 219 < data.length) : buildOut sq cmd data = .err .beTooLong := if_neg (Nat.not_le.2 h)

theorem buildSeq_of_le (h : data.length ≤ 219) : buildSeq sq data = nextSeq sq := if_pos h

theorem buildSeq_of_lt (h : 219 < data.length) : buildSeq sq data = sq := if_neg (Nat.not_le.2 h)

theorem exec_build_of_lt (h : 219 < data.length) (s : State) :
    exec (.build cmd data) s = .next { s with out := .err .beTooLong } := by
  rw [exec_build, buildOut_of_lt h, buildSeq_of_lt h]

theorem outLenByte_toNat (h : data.length ≤ 219) : (outLenByte data).toNat = 0x24 + data.length := by
  rw [outLenByte, BitVec.toNat_ofNat, Nat.mod_eq_of_lt (by omega)]

/-- A built frame byte for byte, with its checksum digits those of the exact sum `v` (R111, R112, R131). -/
theorem outFrame_eq_bytes {v : Nat} (h : data.length ≤ 219)
    (hv : v = (0x24 + data.length) + sq.toNat + cmd.toNat + (data.map BitVec.toNat).sum + 0x05) :
    outFrame sq cmd data = [0x01, BitVec.ofNat 8 (0x24 + data.length), sq, cmd] ++ data ++
      [0x05, BitVec.ofNat 8 (0x30 + v / 4096), BitVec.ofNat 8 (0x30 + v / 256 % 16),
        BitVec.ofNat 8 (0x30 + v / 16 % 16), BitVec.ofNat 8 (0x30 + v % 16), 0x03] := by
  have hsum : outFrameSum sq cmd data = v := by rw [outFrameSum, bccSum_eq, outLenByte_toNat h, hv]
  rw [outFrame_eq, hsum, enc4_eq]
  simp [outLenByte, digitByte, Config.cksumDigitBias]

end

/-- Settles O20: the answer is `buildOut`, the counter `buildSeq`, and the ports carry the payload whole, or one that is
too long. -/
theorem buildResult : Obligations.BuildResult := by
  intro cmd data f s t v hv hf ht
  refine ⟨fun hlen => ?built, fun hlong => exec_build_of_lt hlong s, ?ports⟩
  case built =>
    have hframe : outFrame s.seqctr cmd data = f := (outFrame_eq_bytes hlen hv).trans hf.symm
    have hflen : f.length = 10 + data.length := hframe ▸ length_outFrame _ _ _
    have hn : (BitVec.ofNat 8 f.length).toNat = 10 + data.length := by
      rw [hflen, BitVec.toNat_ofNat, Nat.mod_eq_of_lt (by omega)]
    subst ht
    refine ⟨?_, rfl, rfl, _, rfl, hn, hflen⟩
    rw [exec_build, buildOut_of_le hlen, buildSeq_of_le hlen, hframe]
    rfl
  case ports =>
    rintro p hsel rfl hcarries
    rw [decode_of_selects_build hsel]
    rcases payloadOf_of_carries_or_long hcarries with hdata | ⟨hlong, hlong'⟩
    · rw [hdata]
    · rw [exec_build_of_lt hlong, exec_build_of_lt hlong']

end Sys2Proof.Machine
end

section
/-! Runs of BUILDs (41_encoder.md R134): each accepted one applies `NextSeq`, which steps through the 94 values of
`0x22..0x7F` in a cycle. -/

namespace Sys2Proof.Machine

open Sys2Proof

/-- `NextSeq` applied `k` times counts on modulo 94 above 0x22. -/
theorem iterate_nextSeq_toNat {v : Byte} (h : 34 ≤ v.toNat ∧ v.toNat ≤ 127) (k : Nat) :
    (nextSeq^[k] v).toNat = 34 + (v.toNat - 34 + k) % 94 := by
  induction k with
  | zero => rw [Function.iterate_zero_apply]; omega
  | succ k ih =>
    rw [Function.iterate_succ_apply', nextSeq_toNat, ih]
    split <;> omega

theorem iterate_nextSeq_eq_self_iff {v : Byte} (h : 34 ≤ v.toNat ∧ v.toNat ≤ 127) (k : Nat) :
    nextSeq^[k] v = v ↔ 94 ∣ k := by
  rw [← BitVec.toNat_inj, iterate_nextSeq_toNat h]
  omega

/-- The first 94 values of the counter are each value of its range, once. -/
theorem existsUnique_iterate_nextSeq {v w : Byte} (hv : 34 ≤ v.toNat ∧ v.toNat ≤ 127)
    (hw : 34 ≤ w.toNat ∧ w.toNat ≤ 127) : ∃! k, k < 94 ∧ nextSeq^[k] v = w := by
  simp only [← BitVec.toNat_inj, iterate_nextSeq_toNat hv]
  exact ⟨(w.toNat + 94 - v.toNat) % 94, by omega, fun j hj => by omega⟩

/-- How many of the requests a run of BUILDs accepts (R133). -/
def acceptedCount (rs : List (Byte × List Byte)) : Nat := (rs.filter fun r => decide (r.2.length ≤ 219)).length

theorem iterate_nextSeq_acceptedCount_cons (v : Byte) (r : Byte × List Byte) (rs : List (Byte × List Byte)) :
    nextSeq^[acceptedCount (r :: rs)] v = nextSeq^[acceptedCount rs] (buildSeq v r.2) := by
  by_cases h : r.2.length ≤ 219 <;> simp [acceptedCount, buildSeq, h]

/-- The outputs of a run of BUILDs that starts with `SEQCTR = sq`. -/
def buildOuts (sq : Byte) : List (Byte × List Byte) → List Output
  | [] => []
  | r :: rs => buildOut sq r.1 r.2 :: buildOuts (buildSeq sq r.2) rs

/-- A run of BUILDs completes, with the outputs `buildOuts` and `SEQCTR` advanced once for each accepted request. -/
theorem observe_builds (rs : List (Byte × List Byte)) (hfits : ∀ r ∈ rs, payloadFits r.2 = true) (s : State) :
    ∃ t, observe rs.length (s.offer (rs.map fun r => encode (.build r.1 r.2))) =
      .next (buildOuts s.seqctr rs, t) ∧ t.seqctr = nextSeq^[acceptedCount rs] s.seqctr := by
  induction rs generalizing s with
  | nil => exact ⟨_, rfl, rfl⟩
  | cons r rs ih =>
    obtain ⟨hr, hrs⟩ := List.forall_mem_cons.1 hfits
    obtain ⟨t, hrun, ht⟩ :=
      ih hrs { s with seqctr := buildSeq s.seqctr r.2, out := buildOut s.seqctr r.1 r.2 }
    refine ⟨t, observe_succ ?_ hrun, ht.trans (iterate_nextSeq_acceptedCount_cons _ r rs).symm⟩
    rw [List.map_cons, step_offer_cons, decode_encode_build hr, exec_build]
    rfl

/-- When every request is accepted, the `k`-th output is the `k`-th request's frame with the `k`-th counter value. -/
theorem getElem?_buildOuts {rs : List (Byte × List Byte)} (hlen : ∀ r ∈ rs, r.2.length ≤ 219) (sq : Byte) (k : Nat) :
    (buildOuts sq rs)[k]? = rs[k]?.map fun r => .txFrame (outFrame (nextSeq^[k] sq) r.1 r.2) := by
  induction rs generalizing sq k with
  | nil => rfl
  | cons r rs ih =>
    obtain ⟨hr, hrs⟩ := List.forall_mem_cons.1 hlen
    rw [buildOuts, buildOut_of_le hr, buildSeq_of_le hr]
    cases k with
    | zero => rfl
    | succ k => exact ih hrs (nextSeq sq) k

/-- The `k`-th frame of an accepted run carries the `k`-th counter value (R70, R131). -/
theorem seq_of_getElem?_buildOuts {rs : List (Byte × List Byte)} (hlen : ∀ r ∈ rs, r.2.length ≤ 219) {sq : Byte}
    {k : Nat} {f : List Byte} (h : (buildOuts sq rs)[k]? = some (.txFrame f)) :
    k < rs.length ∧ f[2]? = some (nextSeq^[k] sq) := by
  rw [getElem?_buildOuts hlen, Option.map_eq_some_iff] at h
  obtain ⟨r, hr, hf⟩ := h
  cases hf
  exact ⟨(List.getElem?_eq_some_iff.1 hr).1, rfl⟩

theorem exists_getElem?_buildOuts {rs : List (Byte × List Byte)} (hlen : ∀ r ∈ rs, r.2.length ≤ 219) (sq : Byte)
    {k : Nat} (h : k < rs.length) : ∃ f, (buildOuts sq rs)[k]? = some (.txFrame f) ∧ f[2]? = some (nextSeq^[k] sq) :=
  ⟨_, by rw [getElem?_buildOuts hlen, List.getElem?_eq_getElem h]; rfl, rfl⟩

/-- Settles O22: the run's outputs are `buildOuts`, whose frames carry the iterates of `NextSeq`, and those count on
modulo 94. -/
theorem sequencePeriod : Obligations.SequencePeriod := by
  intro s rs hlegal hfits
  have hs : 34 ≤ s.seqctr.toNat ∧ s.seqctr.toNat ≤ 127 := by simpa [State.seqLegal] using hlegal
  obtain ⟨t, hrun, ht⟩ := observe_builds rs hfits s
  refine ⟨buildOuts s.seqctr rs, t, hrun, ?period, fun hlen h94 v hlo hhi => ?once, fun hlen => ⟨fun f hf => ?first,
    fun j f g hf hg => ?next⟩⟩
  case period =>
    rw [ht]
    exact iterate_nextSeq_eq_self_iff hs (acceptedCount rs)
  case once =>
    obtain ⟨k, ⟨hk, hkv⟩, huniq⟩ := existsUnique_iterate_nextSeq hs ⟨hlo, hhi⟩
    refine ⟨k, hkv ▸ exists_getElem?_buildOuts hlen s.seqctr (h94 ▸ hk), fun j f hj hfv => ?_⟩
    obtain ⟨hjlt, hfj⟩ := seq_of_getElem?_buildOuts hlen hj
    exact huniq j ⟨h94 ▸ hjlt, Option.some.inj (hfj.symm.trans hfv)⟩
  case first => exact (seq_of_getElem?_buildOuts hlen hf).2
  case next =>
    obtain ⟨-, hfj⟩ := seq_of_getElem?_buildOuts hlen hf
    obtain ⟨-, hgj⟩ := seq_of_getElem?_buildOuts hlen hg
    exact ⟨_, _, hfj, hgj, Function.iterate_succ_apply' nextSeq j s.seqctr⟩

end Sys2Proof.Machine
end

section
/-! The other instructions and `SEQCTR` (41_encoder.md R135): each commutes with writing another value into it. -/

namespace Sys2Proof.Machine

open Sys2Proof

/-- `f` neither reads nor writes `SEQCTR`: with another value in it, `f` ends as before but for that value. -/
def IgnoresSeqctr (f : State → Host.Outcome State Fault Refusal) : Prop :=
  ∀ (s : State) (v : Byte), f { s with seqctr := v } = mapNext (fun t => { t with seqctr := v }) (f s)

/-- That `f` does not write `SEQCTR` is the case of writing the value it already holds. -/
theorem IgnoresSeqctr.seqctr_eq {f : State → Host.Outcome State Fault Refusal} (hf : IgnoresSeqctr f) {s t : State}
    (h : f s = .next t) : t.seqctr = s.seqctr := by
  have hself : f s = mapNext (fun u => { u with seqctr := s.seqctr }) (f s) := hf s s.seqctr
  rw [h] at hself
  have ht : t = { t with seqctr := s.seqctr } := Host.Outcome.next.inj hself
  rw [ht]

/-- In no state `ST` does RX_BYTE choose or run its rule by `SEQCTR` (R61, R150). -/
theorem rxByRule_ignoresSeqctr (b : Byte) : IgnoresSeqctr (rxByRule b) := by
  rintro ⟨q, st, len, nlen, seq, cmd, data, dcnt, status, scnt, ck, ccnt, fk, out, inputs, free⟩ v
  cases st with
  | idle | readingLength | expectDelimiter | expectPostamble => simp only [rxByRule]; split_ifs <;> rfl
  | readingSequence | readingCommand | faulted | reserved k => rfl
  | readingData => simp only [rxByRule, ruleData]; split_ifs <;> rfl
  | readingStatus => simp only [rxByRule, ruleStatus]; split_ifs <;> rfl
  | readingChecksum => simp only [rxByRule, ruleCksum]; split_ifs <;> rfl
  | expectTerminator => simp only [rxByRule, ruleTermOk]; split_ifs <;> rfl

/-- The encoder-side transactions other than BUILD give an output of their operands alone and write no register. -/
theorem exec_encoderSide_of_ne_build {i : Instr} (h : i.encoderSide = true) (hb : ∀ cmd data, i ≠ .build cmd data) :
    ∃ o : Output, ∀ s, exec i s = .next { s with out := o } := by
  cases i <;> simp only [Instr.encoderSide, Bool.false_eq_true] at h
  case nop => exact ⟨_, exec_nop⟩
  case build cmd data => exact absurd rfl (hb cmd data)
  case cksumCompute lb sq cmd data => exact ⟨_, exec_cksumCompute⟩
  case cksumDecode c0 c1 c2 c3 => exact ⟨_, exec_cksumDecode⟩
  case statusDecode s0 s1 s2 s3 s4 s5 => exact ⟨_, fun _ => rfl⟩
  case reservedOp => exact ⟨_, exec_reservedOp⟩

theorem exec_ignoresSeqctr {i : Instr} (hr : i ≠ .reset) (hb : ∀ cmd data, i ≠ .build cmd data) :
    IgnoresSeqctr (exec i) := by
  intro s v
  rcases instr_sides i with rfl | rfl | henc | ⟨hdec, hclear⟩
  · exact absurd rfl hr
  · rfl
  · obtain ⟨o, ho⟩ := exec_encoderSide_of_ne_build henc hb
    rw [ho, ho]
    rfl
  · obtain ⟨b, hrule⟩ := exec_decoderSide hdec hclear
    rw [hrule, hrule]
    exact rxByRule_ignoresSeqctr b s v

/-- Settles O23: every other instruction commutes with writing `SEQCTR`, and so leaves it as it is. -/
theorem onlyBuildAndResetUseSeqctr : Obligations.OnlyBuildAndResetUseSeqctr := fun _ s v hr hb =>
  ⟨exec_ignoresSeqctr hr hb s v, fun _ h => (exec_ignoresSeqctr hr hb).seqctr_eq h⟩

end Sys2Proof.Machine
end

section
/-! What one received byte does (42_decoder.md R151 to R169), a record update for each state and class of bytes; and
that a row of the opcode table is the RX_BYTE of its byte. -/

namespace Sys2Proof.Machine

open Sys2Proof

variable {b : Byte} {s t : State}

/-- RX_BYTE ends as each of its rows with the same byte (R150). -/
theorem exec_rxByte_eq_row {i : Instr} (hrow : i.isRow = true) (hb : i.rxOperand = some b) (s : State) :
    exec (.rxByte b) s = exec i s :=
  (exec_row hrow hb s).symm

theorem rxByRule_idle_nak (h : s.st = .idle) : rxByRule Config.nak s = .next { s with out := .nak } := by
  cases s
  cases h
  rfl

theorem rxByRule_idle_syn (h : s.st = .idle) : rxByRule Config.syn s = .next { s with out := .quiet } := by
  cases s
  cases h
  rfl

theorem rxByRule_idle_preamble (h : s.st = .idle) :
    rxByRule Config.preamble s = .next { s with st := .readingLength, out := .quiet } := by
  cases s
  cases h
  rfl

theorem rxByRule_idle_other (h : s.st = .idle) (hpre : b ≠ Config.preamble) (hnak : b ≠ Config.nak)
    (hsyn : b ≠ Config.syn) : rxByRule b s = .next (s.raiseFramingFault .malformed) := by
  cases s
  cases h
  exact (if_neg hnak).trans ((if_neg hsyn).trans (if_neg hpre))

theorem rxByRule_length_ok (h : s.st = .readingLength) (hb : 0x2B ≤ b.toNat) :
    rxByRule b s = .next { s with len := b, nlen := BitVec.ofNat 8 (b.toNat - 0x2B), dcnt := 0, scnt := 0, ccnt := 0,
                                  st := .readingSequence, out := .quiet } := by
  cases s
  cases h
  exact if_pos hb

theorem rxByRule_length_neg (h : s.st = .readingLength) (hb : b.toNat < 0x2B) :
    rxByRule b s = .next (s.raiseFramingFault .negLength) := by
  cases s
  cases h
  exact if_neg (Nat.not_le.2 hb)

theorem rxByRule_sequence (h : s.st = .readingSequence) :
    rxByRule b s = .next { s with seq := b, st := .readingCommand, out := .quiet } := by
  cases s
  cases h
  rfl

theorem rxByRule_command (h : s.st = .readingCommand) :
    rxByRule b s = .next { s with cmd := b, st := if s.nlen = 0 then .expectDelimiter else .readingData,
                                  out := .quiet } := by
  cases s
  cases h
  rfl

theorem rxByRule_data (h : s.st = .readingData) (hd : s.dcnt.toNat < 212) :
    rxByRule b s = .next { s with
      data := s.data.setIfInBounds s.dcnt.toNat b, dcnt := s.dcnt + 1,
      st := if s.dcnt.toNat + 1 = s.nlen.toNat then .expectDelimiter else .readingData, out := .quiet } := by
  cases s
  cases h
  exact if_pos hd

theorem rxByRule_delimiter_ok (h : s.st = .expectDelimiter) :
    rxByRule Config.delimiter s = .next { s with st := .readingStatus, out := .quiet } := by
  cases s
  cases h
  rfl

theorem rxByRule_delimiter_bad (h : s.st = .expectDelimiter) (hb : b ≠ Config.delimiter) :
    rxByRule b s = .next (s.raiseFramingFault .delimiter) := by
  cases s
  cases h
  exact if_neg hb

theorem rxByRule_status (h : s.st = .readingStatus) (hd : s.scnt.toNat < 6) :
    rxByRule b s = .next { s with
      status := s.status.setIfInBounds s.scnt.toNat b, scnt := s.scnt + 1,
      st := if s.scnt.toNat + 1 = 6 then .expectPostamble else .readingStatus, out := .quiet } := by
  cases s
  cases h
  exact if_pos hd

theorem rxByRule_postamble_ok (h : s.st = .expectPostamble) :
    rxByRule Config.postamble s = .next { s with st := .readingChecksum, out := .quiet } := by
  cases s
  cases h
  rfl

theorem rxByRule_postamble_bad (h : s.st = .expectPostamble) (hb : b ≠ Config.postamble) :
    rxByRule b s = .next (s.raiseFramingFault .postamble) := by
  cases s
  cases h
  exact if_neg hb

theorem rxByRule_checksum (h : s.st = .readingChecksum) (hd : s.ccnt.toNat < 4) :
    rxByRule b s = .next { s with
      cksum := s.cksum.setIfInBounds s.ccnt.toNat b, ccnt := s.ccnt + 1,
      st := if s.ccnt.toNat + 1 = 4 then .expectTerminator else .readingChecksum, out := .quiet } := by
  cases s
  cases h
  exact if_pos hd

theorem rxByRule_terminator_ok (h : s.st = .expectTerminator) (hn : s.nlen.toNat ≤ 212) :
    rxByRule Config.terminator s = .next { s with st := .idle, out := .frame (frameRec s) } := by
  cases s
  cases h
  exact if_pos hn

theorem rxByRule_terminator_bad (h : s.st = .expectTerminator) (hb : b ≠ Config.terminator) :
    rxByRule b s = .next (s.raiseFramingFault .terminator) := by
  cases s
  cases h
  exact if_neg hb

theorem rxByRule_faulted (h : s.st = .faulted) : rxByRule b s = .next { s with out := .quiet } := by
  cases s
  cases h
  rfl

theorem rxByRule_reserved {k : Fin 5} (h : s.st = .reserved k) :
    rxByRule b s = .refused .reservedDecoderState := by
  cases s
  cases h
  rfl

/-- No received byte leaves `ST` at a reserved code (R87, R169). -/
theorem st_ne_reserved_of_rxByRule (h : rxByRule b s = .next t) (k : Fin 5) : t.st ≠ .reserved k := by
  rcases rxByRule_cases h with ⟨hst, -, rfl⟩ | ⟨hst, -, rfl⟩ | ⟨hst, -, rfl⟩ | ⟨hst, -, rfl⟩ | ⟨hst, rfl⟩ | ⟨hst, rfl⟩ |
    ⟨hst, -, rfl⟩ | ⟨hst, -, rfl⟩ | ⟨hst, -, rfl⟩ | ⟨hst, -, rfl⟩ | ⟨hst, -, rfl⟩ | ⟨hst, -, -, rfl⟩ | ⟨hst, rfl⟩ |
    ⟨hst, kind, -, rfl⟩ <;> simp [hst, ite_eq_iff]

end Sys2Proof.Machine
end

section
/-! The FrameDecoder rule by rule (42_decoder.md R151 to R169): each row of the opcode table and the RX_BYTE of its
byte are the rule of the state. -/

namespace Sys2Proof.Machine

open Sys2Proof

/-- Settles O26: R151, R152 and R153. -/
theorem idleControlBytes : Obligations.IdleControlBytes := fun s h =>
  ⟨(exec_row rfl rfl s).trans (rxByRule_idle_nak h), exec_rxByte_eq_row rfl rfl s,
    (exec_row rfl rfl s).trans (rxByRule_idle_syn h), exec_rxByte_eq_row rfl rfl s,
    (exec_row rfl rfl s).trans (rxByRule_idle_preamble h), exec_rxByte_eq_row rfl rfl s⟩

/-- Settles O27: R154. -/
theorem idleOtherByte : Obligations.IdleOtherByte := fun _ s h hpre hnak hsyn =>
  ⟨(exec_row rfl rfl s).trans (rxByRule_idle_other h hpre hnak hsyn), exec_rxByte_eq_row rfl rfl s⟩

/-- Settles O28: R155, with `NLEN = L - 43` a byte since `L` is one, and R156. -/
theorem lengthByte : Obligations.LengthByte := by
  intro b s h
  refine ⟨fun hb => ⟨exec_rxByte_eq_row rfl rfl s, BitVec.ofNat 8 (b.toNat - 0x2B), ?nlen, ?bound, ?row⟩,
    fun hb => ⟨exec_rxByte_eq_row rfl rfl s, (exec_row rfl rfl s).trans (rxByRule_length_neg h hb)⟩⟩
  case nlen => rw [BitVec.toNat_ofNat]; omega
  case bound => rw [BitVec.toNat_ofNat]; omega
  case row => exact (exec_row rfl rfl s).trans (rxByRule_length_ok h hb)

/-- Settles O29: R157 and R158, the latter split by whether `NLEN` is 0. -/
theorem sequenceAndCommandBytes : Obligations.SequenceAndCommandBytes := by
  intro b s
  refine ⟨fun h => ⟨exec_rxByte_eq_row rfl rfl s, (exec_row rfl rfl s).trans (rxByRule_sequence h)⟩,
    fun h => ⟨exec_rxByte_eq_row rfl rfl s, fun hn => ?empty, fun hn => ?payload⟩⟩
  all_goals rw [exec_row rfl rfl s, rxByRule_command h]
  case empty => rw [if_pos (BitVec.eq_of_toNat_eq hn)]
  case payload => rw [if_neg fun h0 => hn.ne' (congrArg BitVec.toNat h0)]

/-- Settles O30: R159. -/
theorem payloadByte : Obligations.PayloadByte := by
  intro b s h hd
  refine ⟨exec_rxByte_eq_row rfl rfl s, _, (exec_row rfl rfl s).trans (rxByRule_data h hd), fun k => ?entry, ?count,
    rfl, rfl⟩
  case entry => exact (Vector.getElem_setIfInBounds k.isLt).trans (if_congr eq_comm rfl rfl)
  case count => exact BitVec.toNat_add_of_lt (by simp; omega)

/-- Settles O31: R160 and R161. -/
theorem delimiterByte : Obligations.DelimiterByte := fun _ s h =>
  ⟨(exec_row rfl rfl s).trans (rxByRule_delimiter_ok h), exec_rxByte_eq_row rfl rfl s, fun hb =>
    ⟨exec_rxByte_eq_row rfl rfl s, (exec_row rfl rfl s).trans (rxByRule_delimiter_bad h hb)⟩⟩

/-- Settles O32: R162. -/
theorem statusByte : Obligations.StatusByte := by
  intro b s h hd
  refine ⟨exec_rxByte_eq_row rfl rfl s, _, (exec_row rfl rfl s).trans (rxByRule_status h hd), fun k => ?entry, ?count,
    rfl, rfl⟩
  case entry => exact (Vector.getElem_setIfInBounds k.isLt).trans (if_congr eq_comm rfl rfl)
  case count => exact BitVec.toNat_add_of_lt (by simp; omega)

/-- Settles O33: R163 and R164. -/
theorem postambleByte : Obligations.PostambleByte := fun _ s h =>
  ⟨(exec_row rfl rfl s).trans (rxByRule_postamble_ok h), exec_rxByte_eq_row rfl rfl s, fun hb =>
    ⟨exec_rxByte_eq_row rfl rfl s, (exec_row rfl rfl s).trans (rxByRule_postamble_bad h hb)⟩⟩

/-- Settles O34: R165. -/
theorem checksumByte : Obligations.ChecksumByte := by
  intro b s h hd
  refine ⟨exec_rxByte_eq_row rfl rfl s, _, (exec_row rfl rfl s).trans (rxByRule_checksum h hd), fun k => ?entry,
    ?count, rfl, rfl⟩
  case entry => exact (Vector.getElem_setIfInBounds k.isLt).trans (if_congr eq_comm rfl rfl)
  case count => exact BitVec.toNat_add_of_lt (by simp; omega)

/-- The payload of the record, entry by entry (R170). -/
theorem frameRec_data {s : State} (hn : s.nlen.toNat ≤ 212) :
    (frameRec s).data.length = s.nlen.toNat ∧
      ∀ k : Fin 212, k.val < s.nlen.toNat → (frameRec s).data[k.val]? = some s.data[k] := by
  refine ⟨by simp [frameRec, hn], fun k hk => ?_⟩
  simp [frameRec, List.getElem?_take_of_lt hk]

/-- Settles O35: R166 with the record of R170, and R167. -/
theorem terminatorByte : Obligations.TerminatorByte := by
  intro b s h
  refine ⟨exec_rxByte_eq_row rfl rfl s, fun hn => ?record, fun hb =>
    ⟨exec_rxByte_eq_row rfl rfl s, (exec_row rfl rfl s).trans (rxByRule_terminator_bad h hb)⟩⟩
  obtain ⟨hlen, hentry⟩ := frameRec_data hn
  exact ⟨frameRec s, (exec_row rfl rfl s).trans (rxByRule_terminator_ok h hn), rfl, rfl, rfl, rfl, hlen, hentry, rfl,
    rfl, rfl⟩

/-- Settles O36: R168. -/
theorem faultedDropsBytes : Obligations.FaultedDropsBytes := fun _ s h =>
  ⟨(exec_row rfl rfl s).trans (rxByRule_faulted h), exec_rxByte_eq_row rfl rfl s⟩

/-- Settles O37: R169 refuses; RESET and DEC_CLEAR end in IDLE, the encoder side keeps `ST`, and no received byte ends
at a reserved code. -/
theorem reservedStateRefuses : Obligations.ReservedStateRefuses := by
  refine ⟨fun b s k h => ⟨(exec_row rfl rfl s).trans (rxByRule_reserved h), rxByRule_reserved h⟩,
    fun i s t k ht hk => ?_⟩
  rcases instr_sides i with rfl | rfl | henc | ⟨hdec, hclear⟩
  · cases ht
    cases hk
  · cases ht
    cases hk
  · obtain ⟨v, o, -, hexec⟩ := exec_encoderSide henc s
    cases ht.symm.trans (hexec s rfl)
    exact hk
  · obtain ⟨b, hrule⟩ := exec_decoderSide hdec hclear
    exact absurd hk (st_ne_reserved_of_rxByRule ((hrule s).symm.trans ht) k)

end Sys2Proof.Machine
end

section
/-! Runs of received bytes without an event, and the run of a whole inbound frame (42_decoder.md R72, R176): what the
registers hold as the delimiter, the postamble and the terminator are about to come. -/

namespace Sys2Proof.Machine

open Sys2Proof

/-- RX_BYTE neither reads nor writes the host's queue. -/
theorem rxByRule_offer (b : Byte) (s : State) (ps : List Ports) :
    rxByRule b (s.offer ps) = mapNext (State.offer ps) (rxByRule b s) := by
  change rxByRule b { s with inputs := ps ++ s.inputs } = _
  rcases s with ⟨q, st, len, nlen, seq, cmd, data, dcnt, status, scnt, ck, ccnt, fk, out, inputs, free⟩
  cases st with
  | idle | readingLength | expectDelimiter | expectPostamble => simp only [rxByRule]; split_ifs <;> rfl
  | readingSequence | readingCommand | faulted | reserved k => rfl
  | readingData => simp only [rxByRule, ruleData]; split_ifs <;> rfl
  | readingStatus => simp only [rxByRule, ruleStatus]; split_ifs <;> rfl
  | readingChecksum => simp only [rxByRule, ruleCksum]; split_ifs <;> rfl
  | expectTerminator => simp only [rxByRule, ruleTermOk]; split_ifs <;> rfl

theorem rxByRule_offer_of_next {b : Byte} {s t : State} (h : rxByRule b s = .next t) (ps : List Ports) :
    rxByRule b (s.offer ps) = .next (t.offer ps) := by
  rw [rxByRule_offer, h]
  rfl

/-- A run of received bytes, as the outputs of as many steps. -/
theorem Run.observe_eq {s t : State} {bs : List Byte} {os : List Output} (h : Run s bs os t) {n : Nat}
    (hn : bs.length = n) : observe n (s.offer (bs.map rxPorts)) = .next (os, t) := by
  have hrun := h []
  rwa [List.append_nil, hn] at hrun

/-- Delivering the bytes `bs` in `s` gives no event and ends in `t`. -/
def QuietRun (s : State) (bs : List Byte) (t : State) : Prop := Run s bs (List.replicate bs.length .quiet) t

theorem QuietRun.nil (s : State) : QuietRun s [] s := Run.nil s

theorem QuietRun.cons {s t u : State} {b : Byte} {bs : List Byte} (h : rxByRule b s = .next t) (ht : t.out = .quiet)
    (htail : QuietRun t bs u) : QuietRun s (b :: bs) u := by
  have hrun := Run.cons (rxByRule_offer_of_next h) htail
  rwa [ht] at hrun

theorem QuietRun.trans {s t u : State} {as bs : List Byte} (h : QuietRun s as t) (h' : QuietRun t bs u) :
    QuietRun s (as ++ bs) u := by
  have hrun := Run.trans h h'
  rwa [List.replicate_append_replicate, ← List.length_append] at hrun

/-- The first `4 + N` bytes of a frame: those before the delimiter. -/
def InboundFrame.bytesToPayload (f : InboundFrame) : List Byte :=
  [Config.preamble, f.record.length, f.sequence, f.command] ++ f.data

/-- The first `11 + N` bytes of a frame: those before the postamble. -/
def InboundFrame.bytesToStatus (f : InboundFrame) : List Byte :=
  f.bytesToPayload ++ Config.delimiter :: f.status.toList

/-- The first `16 + N` bytes of a frame: those before the terminator. -/
def InboundFrame.bytesToChecksum (f : InboundFrame) : List Byte :=
  f.bytesToStatus ++ Config.postamble :: f.checksum.toList

section
variable (f : InboundFrame)

theorem InboundFrame.length_bytesToPayload : f.bytesToPayload.length = 4 + f.data.length := by
  simp [bytesToPayload]
  omega

theorem InboundFrame.length_bytesToStatus : f.bytesToStatus.length = 11 + f.data.length := by
  simp [bytesToStatus, length_bytesToPayload]
  omega

theorem InboundFrame.length_bytesToChecksum : f.bytesToChecksum.length = 16 + f.data.length := by
  simp [bytesToChecksum, length_bytesToStatus]
  omega

/-- The terminator is the last byte of a frame. -/
theorem InboundFrame.bytes_eq_terminator : f.bytes = f.bytesToChecksum ++ [Config.terminator] := by
  simp [bytes, inFrame, bytesToChecksum, bytesToStatus, bytesToPayload, record]

/-- Where the postamble stands in a frame. -/
theorem InboundFrame.bytes_eq_postamble :
    f.bytes = f.bytesToStatus ++ Config.postamble :: (f.checksum.toList ++ [Config.terminator]) := by
  simp [bytes_eq_terminator, bytesToChecksum]

/-- Where the delimiter stands in a frame. -/
theorem InboundFrame.bytes_eq_delimiter :
    f.bytes = f.bytesToPayload ++ Config.delimiter ::
      (f.status.toList ++ Config.postamble :: (f.checksum.toList ++ [Config.terminator])) := by
  simp [bytes_eq_postamble, bytesToStatus]

theorem InboundFrame.length_bytes : f.bytes.length = 17 + f.data.length := by
  simp [bytes_eq_terminator, length_bytesToChecksum]
  omega

end

/-- `s` after the first four bytes of `f`. -/
def State.afterHeader (f : InboundFrame) (s : State) : State :=
  { s with len := f.record.length, nlen := f.record.n, seq := f.sequence, cmd := f.command, dcnt := 0, scnt := 0,
           ccnt := 0, st := if f.record.n = 0 then .expectDelimiter else .readingData, out := .quiet }

/-- `s` before the delimiter of `f`, with the payload in the buffer `d`. -/
def State.atDelimiter (f : InboundFrame) (d : Vector Byte 212) (s : State) : State :=
  { s with len := f.record.length, nlen := f.record.n, seq := f.sequence, cmd := f.command, data := d,
           dcnt := f.record.n, scnt := 0, ccnt := 0, st := .expectDelimiter, out := .quiet }

/-- `s` before the postamble of `f`. -/
def State.atPostamble (f : InboundFrame) (d : Vector Byte 212) (s : State) : State :=
  { s.atDelimiter f d with status := f.status, scnt := 6, st := .expectPostamble }

/-- `s` before the terminator of `f`. -/
def State.atTerminator (f : InboundFrame) (d : Vector Byte 212) (s : State) : State :=
  { s.atPostamble f d with cksum := f.checksum, ccnt := 4, st := .expectTerminator }

section
variable {f : InboundFrame} {s : State}

theorem InboundFrame.fits_iff : f.fits = true ↔ f.data.length ≤ 212 := by
  simp [fits]

/-- The payload length of a frame that fits is a byte. -/
theorem InboundFrame.record_n_toNat (hf : f.fits = true) : f.record.n.toNat = f.data.length := by
  rw [fits_iff] at hf
  rw [record, BitVec.toNat_ofNat]
  omega

/-- `NLEN = L - 43` undoes `L = N + 43` (R155, R73). -/
theorem rxByRule_frame_length (hf : f.fits = true) (h : s.st = .readingLength) :
    rxByRule f.record.length s = .next { s with len := f.record.length, nlen := f.record.n, dcnt := 0, scnt := 0,
                                                ccnt := 0, st := .readingSequence, out := .quiet } := by
  rw [InboundFrame.fits_iff] at hf
  have hlen : f.record.length.toNat = f.data.length + 43 := by
    rw [InboundFrame.record, BitVec.toNat_ofNat]
    omega
  rw [rxByRule_length_ok h (by omega), hlen]
  rfl

theorem quietRun_header (hf : f.fits = true) (h : s.st = .idle) :
    QuietRun s [Config.preamble, f.record.length, f.sequence, f.command] (s.afterHeader f) :=
  .cons (rxByRule_idle_preamble h) rfl <| .cons (rxByRule_frame_length hf rfl) rfl <|
    .cons (rxByRule_sequence rfl) rfl <| .cons (rxByRule_command rfl) rfl <| .nil _

/-- The bytes before the delimiter store the payload in the first `N` entries of the buffer. -/
theorem exists_quietRun_bytesToPayload (hf : f.fits = true) (h : s.st = .idle) :
    ∃ d : Vector Byte 212, d.toList.take f.data.length = f.data ∧
      QuietRun s f.bytesToPayload (s.atDelimiter f d) := by
  have hn := InboundFrame.record_n_toNat hf
  by_cases hdata : f.data = []
  · refine ⟨s.data, by simp [hdata], ?_⟩
    have hn0 : f.record.n = 0 := BitVec.eq_of_toNat_eq (by rw [hn, hdata]; rfl)
    have hend : s.afterHeader f = s.atDelimiter f s.data := by
      rw [State.afterHeader, if_pos hn0, State.atDelimiter, hn0]
    rw [InboundFrame.bytesToPayload, hdata, ← hend]
    exact quietRun_header hf h
  · have hn0 : f.record.n ≠ 0 := fun h0 => hdata (List.length_eq_zero_iff.1 (hn.symm.trans (congrArg BitVec.toNat h0)))
    obtain ⟨t, hrun, ht, hdcnt, htake⟩ := run_data f.data (s.afterHeader f) (if_neg hn0) hdata
      ((Nat.zero_add _).trans hn.symm) (hn.le.trans (InboundFrame.fits_iff.1 hf))
    refine ⟨t.data, ?_, (quietRun_header hf h).trans ?_⟩
    · rw [← hn]
      exact htake
    · rw [hdcnt] at ht
      exact ht ▸ hrun

theorem quietRun_status (f : InboundFrame) (d : Vector Byte 212) (s : State) :
    QuietRun (s.atDelimiter f d) (Config.delimiter :: f.status.toList) (s.atPostamble f d) := by
  refine .cons (rxByRule_delimiter_ok rfl) rfl ?_
  rw [QuietRun, Vector.length_toList]
  exact run_status rfl rfl f.status

theorem quietRun_checksum (f : InboundFrame) (d : Vector Byte 212) (s : State) :
    QuietRun (s.atPostamble f d) (Config.postamble :: f.checksum.toList) (s.atTerminator f d) := by
  refine .cons (rxByRule_postamble_ok rfl) rfl ?_
  rw [QuietRun, Vector.length_toList]
  exact run_cksum rfl rfl f.checksum

/-- A frame that fits, delivered in IDLE, passes without an event through the states before its delimiter, its postamble
and its terminator. -/
theorem exists_quietRuns (hf : f.fits = true) (h : s.st = .idle) :
    ∃ d : Vector Byte 212, d.toList.take f.data.length = f.data ∧ QuietRun s f.bytesToPayload (s.atDelimiter f d) ∧
      QuietRun s f.bytesToStatus (s.atPostamble f d) ∧ QuietRun s f.bytesToChecksum (s.atTerminator f d) := by
  obtain ⟨d, htake, hpayload⟩ := exists_quietRun_bytesToPayload hf h
  have hstatus := hpayload.trans (quietRun_status f d s)
  exact ⟨d, htake, hpayload, hstatus, hstatus.trans (quietRun_checksum f d s)⟩

/-- The registers before the terminator hold the frame's fields (R170). -/
theorem frameRec_atTerminator (hf : f.fits = true) {d : Vector Byte 212}
    (htake : d.toList.take f.data.length = f.data) :
    frameRec (s.atTerminator f d) = f.record := by
  have hdata : d.toList.take f.record.n.toNat = f.data := by rw [InboundFrame.record_n_toNat hf, htake]
  simp only [frameRec, State.atTerminator, State.atPostamble, State.atDelimiter, hdata]
  rfl

/-- A frame that fits, delivered in IDLE: its record on the last byte, and back in IDLE (R176). -/
theorem run_frame (hf : f.fits = true) (h : s.st = .idle) :
    ∃ t, Run s f.bytes (List.replicate (16 + f.data.length) .quiet ++ [.frame f.record]) t ∧
      t.st = .idle ∧ t.inputs = s.inputs ∧ t.seqctr = s.seqctr ∧ t.faultKind = s.faultKind := by
  obtain ⟨d, htake, -, -, hquiet⟩ := exists_quietRuns hf h
  have hn : (s.atTerminator f d).nlen.toNat ≤ 212 :=
    (InboundFrame.record_n_toNat hf).le.trans (InboundFrame.fits_iff.1 hf)
  have hterm := rxByRule_terminator_ok (s := s.atTerminator f d) rfl hn
  rw [frameRec_atTerminator hf htake] at hterm
  refine ⟨{ s.atTerminator f d with st := .idle, out := .frame f.record }, ?_, rfl, rfl, rfl, rfl⟩
  rw [InboundFrame.bytes_eq_terminator, ← InboundFrame.length_bytesToChecksum]
  exact Run.trans hquiet (Run.one (rxByRule_offer_of_next hterm))

end

end Sys2Proof.Machine
end

section
/-! The laws of inbound frames (42_decoder.md R171, R175 to R177): where the checked bytes stand, and what a well-formed
frame, a corrupted one and a stream of them give. -/

namespace Sys2Proof.Machine

open Sys2Proof

/-! ### Positions -/

section
variable {s : State}

theorem State.frameLegal_of_inv (h : s.inv = true) : s.frameLegal = true := by
  simp only [inv, Bool.and_eq_true] at h
  exact h.2

theorem State.dcnt_eq_zero_of_readingCommand (hinv : s.inv = true) (h : s.st = .readingCommand) : s.dcnt = 0 := by
  have hlegal := frameLegal_of_inv hinv
  simp only [frameLegal, h, Bool.and_eq_true, beq_iff_eq] at hlegal
  obtain ⟨⟨⟨-, hdcnt⟩, -⟩, -⟩ := hlegal
  exact hdcnt

theorem State.scnt_eq_zero_of_expectDelimiter (hinv : s.inv = true) (h : s.st = .expectDelimiter) : s.scnt = 0 := by
  have hlegal := frameLegal_of_inv hinv
  simp only [frameLegal, h, Bool.and_eq_true, beq_iff_eq] at hlegal
  obtain ⟨⟨-, hscnt⟩, -⟩ := hlegal
  exact hscnt

theorem State.ccnt_eq_zero_of_expectPostamble (hinv : s.inv = true) (h : s.st = .expectPostamble) : s.ccnt = 0 := by
  have hlegal := frameLegal_of_inv hinv
  simp only [frameLegal, h, Bool.and_eq_true, beq_iff_eq] at hlegal
  obtain ⟨-, hccnt⟩ := hlegal
  exact hccnt

/-- Where a byte is checked, `NLEN + 43` is the length byte (R155). -/
theorem State.nlen_add_of_inv (hinv : s.inv = true)
    (h : s.st = .expectDelimiter ∨ s.st = .expectPostamble ∨ s.st = .expectTerminator) :
    s.nlen.toNat + 43 = s.len.toNat := by
  have hlegal := frameLegal_of_inv hinv
  rcases h with h | h | h <;>
  · simp only [frameLegal, lengthKnown, h, Bool.and_eq_true, decide_eq_true_eq] at hlegal
    obtain ⟨⟨⟨⟨-, hlen⟩, -⟩, -⟩, -⟩ := hlegal
    exact hlen

end

/-- A byte of a frame that moves `ST` on raises the position of the next byte by 1: it adds 1 to the count of its field,
or starts the next field, whose count is 0. -/
theorem nextPosition_of_rxByRule {b : Byte} {s t : State} {p : Nat} (hinv : s.inv = true)
    (hp : s.nextPosition = some p) (h : rxByRule b s = .next t) :
    t.st = .faulted ∨ (s.st = .expectTerminator ∧ t.st = .idle) ∨ t.nextPosition = some (p + 1) := by
  have hidle : s.st ≠ .idle := fun hst => by simp [State.nextPosition, hst] at hp
  have hfaulted : s.st ≠ .faulted := fun hst => by simp [State.nextPosition, hst] at hp
  rcases rxByRule_cases h with ⟨hst, -, rfl⟩ | ⟨hst, -, rfl⟩ | ⟨hst, -, rfl⟩ | ⟨hst, -, rfl⟩ | ⟨hst, rfl⟩ |
    ⟨hst, rfl⟩ | ⟨hst, hd, rfl⟩ | ⟨hst, -, rfl⟩ | ⟨hst, hd, rfl⟩ | ⟨hst, -, rfl⟩ | ⟨hst, hd, rfl⟩ | ⟨hst, -, -, rfl⟩ |
    ⟨hst, rfl⟩ | ⟨-, kind, -, rfl⟩
  · exact absurd hst hidle
  · exact absurd hst hidle
  · exact absurd hst hidle
  · simp [State.nextPosition, hst] at hp ⊢
    omega
  · simp [State.nextPosition, hst] at hp ⊢
    omega
  · have hdcnt := State.dcnt_eq_zero_of_readingCommand hinv hst
    split_ifs with hn <;> simp [State.nextPosition, hst, hdcnt, hn] at hp ⊢ <;> omega
  · split_ifs <;> simp [State.nextPosition, hst] at hp ⊢ <;> omega
  · have hscnt := State.scnt_eq_zero_of_expectDelimiter hinv hst
    simp [State.nextPosition, hst, hscnt] at hp ⊢
    omega
  · split_ifs <;> simp [State.nextPosition, hst] at hp ⊢ <;> omega
  · have hccnt := State.ccnt_eq_zero_of_expectPostamble hinv hst
    simp [State.nextPosition, hst, hccnt] at hp ⊢
    omega
  · split_ifs <;> simp [State.nextPosition, hst] at hp ⊢ <;> omega
  · exact .inr (.inl ⟨hst, rfl⟩)
  · exact absurd hst hfaulted
  · exact .inl rfl

/-- Settles O43: the step of 1 is `nextPosition_of_rxByRule`; the checked bytes stand at positions counted by `NLEN`,
which is `L - 43`. -/
theorem positionalArithmetic : Obligations.PositionalArithmetic := by
  refine ⟨fun b s t p hinv hp h => nextPosition_of_rxByRule hinv hp h, fun s t hst h => ?first, fun s hinv =>
    ⟨fun hst => ?delimiter, fun hst => ?postamble, fun hst => ?terminator⟩⟩
  case first =>
    cases h.symm.trans ((exec_row rfl rfl s).trans (rxByRule_idle_preamble hst))
    rfl
  case delimiter =>
    have hlen := State.nlen_add_of_inv hinv (.inl hst)
    simp only [State.nextPosition, hst, Option.some.injEq]
    omega
  case postamble =>
    have hlen := State.nlen_add_of_inv hinv (.inr (.inl hst))
    simp only [State.nextPosition, hst, Option.some.injEq]
    omega
  case terminator =>
    have hlen := State.nlen_add_of_inv hinv (.inr (.inr hst))
    simp only [State.nextPosition, hst, Option.some.injEq]
    omega

/-! ### A well-formed frame -/

/-- A byte that ends in FAULTED emits no frame (R168, R241). -/
theorem frameOut_eq_none_of_faulted {b : Byte} {s t : State} (h : rxByRule b s = .next t) (ht : t.st = .faulted) :
    t.frameOut = none := by
  rcases rxByRule_cases h with ⟨-, -, rfl⟩ | ⟨-, -, rfl⟩ | ⟨-, -, rfl⟩ | ⟨-, -, rfl⟩ | ⟨-, rfl⟩ | ⟨-, rfl⟩ |
    ⟨-, -, rfl⟩ | ⟨-, -, rfl⟩ | ⟨-, -, rfl⟩ | ⟨-, -, rfl⟩ | ⟨-, -, rfl⟩ | ⟨-, -, -, rfl⟩ | ⟨-, rfl⟩ |
    ⟨-, kind, -, rfl⟩ <;> simp_all [State.frameOut]

/-- RESET and DEC_CLEAR leave IDLE and no event (R280, R281). -/
theorem exec_clearing {i : Instr} (hi : i = .reset ∨ i = .decClear) (s : State) :
    ∃ t, exec i s = .next t ∧ t.st = .idle ∧ t.out = .quiet := by
  rcases hi with rfl | rfl
  · exact ⟨_, rfl, rfl, rfl⟩
  · exact ⟨_, rfl, rfl, rfl⟩

/-- Settles O44: the whole run is `run_frame`, and a frame cut off is the beginning of it. -/
theorem wellFormedFrame : Obligations.WellFormedFrame := by
  intro f s hf hs
  obtain ⟨t, hrun, ht⟩ := run_frame hf hs
  have hobs := hrun.observe_eq f.length_bytes
  refine ⟨⟨t, hobs, ht⟩, fun k hk => ?_⟩
  have hkj : 17 + f.data.length = k + (17 + f.data.length - k) := by omega
  rw [hkj] at hobs
  obtain ⟨u, hu⟩ := observe_take hobs
  have htake : (List.replicate (16 + f.data.length) Output.quiet ++ [Output.frame f.record]).take k =
      List.replicate k .quiet := by
    rw [List.take_append_of_le_length (by rwa [List.length_replicate]), List.take_replicate, Nat.min_eq_left hk]
  rw [htake] at hu
  exact ⟨u, hu, fun i hi => exec_clearing hi u, fun b v hv => frameOut_eq_none_of_faulted hv⟩

/-! ### A corrupted frame -/

/-- When the byte after a quiet run raises a FramingFault, the rest of the bytes are dropped. -/
theorem run_fault {s t : State} {as bs : List Byte} {b : Byte} {k : FaultKind} (hrun : QuietRun s as t)
    (hb : rxByRule b t = .next (t.raiseFramingFault k)) :
    ∃ u, Run s (as ++ b :: bs) (List.replicate as.length .quiet ++ (.fault k :: List.replicate bs.length .quiet)) u ∧
      u.st = .faulted ∧ u.faultKind = k := by
  obtain ⟨u, hdead, hst, hkind⟩ := run_faulted bs (t.raiseFramingFault k) rfl
  exact ⟨u, Run.trans hrun (Run.cons (rxByRule_offer_of_next hb) hdead), hst, hkind⟩

/-- A frame changed at a byte that is checked: the fault on that byte, and nothing after it. -/
theorem observe_corrupted {f : InboundFrame} {s t : State} {as bs : List Byte} {x b : Byte} {k : FaultKind} {pos : Nat}
    (hpos : as.length = pos) (hbytes : f.bytes = as ++ x :: bs) (hrun : QuietRun s as t)
    (hb : rxByRule b t = .next (t.raiseFramingFault k)) :
    ∃ u, observe (17 + f.data.length) (s.offer ((f.bytes.set pos b).map rxPorts)) =
        .next (List.replicate pos .quiet ++ [.fault k] ++ List.replicate (16 + f.data.length - pos) .quiet, u) ∧
      u.st = .faulted ∧ u.faultKind = k := by
  subst hpos
  have hlen := f.length_bytes
  rw [hbytes, List.length_append, List.length_cons] at hlen
  obtain ⟨u, hfault, hu⟩ := run_fault (bs := bs) hrun hb
  refine ⟨u, ?_, hu⟩
  have hset : f.bytes.set as.length b = as ++ b :: bs := by simp [hbytes]
  have hrest : 16 + f.data.length - as.length = bs.length := by omega
  rw [hset, hrest, List.append_assoc]
  exact hfault.observe_eq (by simpa using hlen)

/-- Changing one byte of the field `v` between `as` and `bs`. -/
theorem set_field {as v bs : List Byte} {b : Byte} {k : Nat} (hk : k < v.length) :
    (as ++ (v ++ bs)).set (as.length + k) b = as ++ (v.set k b ++ bs) := by
  rw [List.set_append_right _ _ (Nat.le_add_right _ _), Nat.add_sub_cancel_left, List.set_append_left _ _ hk]

section
variable (f : InboundFrame) (b : Byte)

theorem InboundFrame.bytes_set_data {k : Nat} (hk : k < f.data.length) :
    { f with data := f.data.set k b }.bytes = f.bytes.set (4 + k) b := by
  have hset := set_field (as := [Config.preamble, f.record.length, f.sequence, f.command])
    (bs := Config.delimiter :: (f.status.toList ++ Config.postamble :: (f.checksum.toList ++ [Config.terminator])))
    (b := b) hk
  simpa [bytes, inFrame, record] using hset.symm

theorem InboundFrame.bytes_set_status {k : Nat} (hk : k < 6) :
    { f with status := f.status.set k b }.bytes = f.bytes.set (5 + f.data.length + k) b := by
  have hset := set_field (as := f.bytesToPayload ++ [Config.delimiter]) (v := f.status.toList)
    (bs := Config.postamble :: (f.checksum.toList ++ [Config.terminator])) (b := b) (k := k) (by simpa using hk)
  have hpos : 4 + f.data.length + 1 + k = 5 + f.data.length + k := by omega
  rw [List.length_append, length_bytesToPayload, List.length_singleton, hpos] at hset
  simpa [bytes, inFrame, bytesToPayload, record, Vector.toList_set] using hset.symm

theorem InboundFrame.bytes_set_checksum {k : Nat} (hk : k < 4) :
    { f with checksum := f.checksum.set k b }.bytes = f.bytes.set (12 + f.data.length + k) b := by
  have hset := set_field (as := f.bytesToStatus ++ [Config.postamble]) (v := f.checksum.toList)
    (bs := [Config.terminator]) (b := b) (k := k) (by simpa using hk)
  have hpos : 11 + f.data.length + 1 + k = 12 + f.data.length + k := by omega
  rw [List.length_append, length_bytesToStatus, List.length_singleton, hpos] at hset
  simpa [bytes, inFrame, bytesToStatus, bytesToPayload, record, Vector.toList_set] using hset.symm

/-- A byte changed in a transparent position is a changed field: the bytes are those of another frame of the same
length. -/
theorem InboundFrame.exists_bytes_eq_set {pos : Nat} (hpos : 2 ≤ pos ∧ pos < 4 + f.data.length ∨
      5 + f.data.length ≤ pos ∧ pos < 11 + f.data.length ∨ 12 + f.data.length ≤ pos ∧ pos < 16 + f.data.length) :
    ∃ g : InboundFrame, g.bytes = f.bytes.set pos b ∧ g.data.length = f.data.length := by
  rcases hpos with ⟨hlo, hhi⟩ | ⟨hlo, hhi⟩ | ⟨hlo, hhi⟩
  · by_cases hdata : 4 ≤ pos
    · obtain ⟨k, rfl⟩ := Nat.exists_eq_add_of_le hdata
      exact ⟨_, f.bytes_set_data b (by omega), List.length_set⟩
    · obtain rfl | rfl : pos = 2 ∨ pos = 3 := by omega
      · exact ⟨{ f with sequence := b }, rfl, rfl⟩
      · exact ⟨{ f with command := b }, rfl, rfl⟩
  · obtain ⟨k, rfl⟩ := Nat.exists_eq_add_of_le hlo
    exact ⟨_, f.bytes_set_status b (by omega), rfl⟩
  · obtain ⟨k, rfl⟩ := Nat.exists_eq_add_of_le hlo
    exact ⟨_, f.bytes_set_checksum b (by omega), rfl⟩

end

/-- Settles O45: at each checked byte a quiet run ends in the state that checks it; elsewhere the bytes are another
frame's. -/
theorem corruptedFrame : Obligations.CorruptedFrame := by
  intro f b s pos hf hs
  refine ⟨fun k hk => ?checked, fun hpos => ?transparent⟩
  case checked =>
    obtain ⟨d, -, hpayload, hstatus, hchecksum⟩ := exists_quietRuns hf hs
    rcases hk with ⟨rfl, rfl, hb⟩ | ⟨rfl, rfl, hb⟩ | ⟨rfl, rfl, hb⟩
    · exact observe_corrupted f.length_bytesToPayload f.bytes_eq_delimiter hpayload (rxByRule_delimiter_bad rfl hb)
    · exact observe_corrupted f.length_bytesToStatus f.bytes_eq_postamble hstatus (rxByRule_postamble_bad rfl hb)
    · exact observe_corrupted f.length_bytesToChecksum f.bytes_eq_terminator hchecksum (rxByRule_terminator_bad rfl hb)
  case transparent =>
    obtain ⟨g, hbytes, hlen⟩ := f.exists_bytes_eq_set b hpos
    have hg : g.fits = true := InboundFrame.fits_iff.2 (hlen.trans_le (InboundFrame.fits_iff.1 hf))
    obtain ⟨t, hrun, hidle, -⟩ := run_frame hg hs
    refine ⟨g, t, hbytes, ?_, hidle⟩
    rw [← hbytes, ← hlen]
    exact hrun.observe_eq g.length_bytes

/-! ### A stream of frames -/

/-- The frames that a run emits, in order. -/
def framesOf (os : List Output) : List FrameRec := os.filterMap fun o => match o with | .frame r => some r | _ => none

theorem framesOf_append (os os' : List Output) : framesOf (os ++ os') = framesOf os ++ framesOf os' :=
  List.filterMap_append

theorem framesOf_replicate_quiet (n : Nat) : framesOf (List.replicate n .quiet) = [] := by
  simp [framesOf]

/-- NAK and SYN bytes between frames emit no frame, and stay in IDLE (R151, R152). -/
theorem run_gap {bs : List Byte} (hbs : ∀ b ∈ bs, b = 0x15 ∨ b = 0x16) {s : State} (hs : s.st = .idle) :
    ∃ os t, Run s bs os t ∧ t.st = .idle ∧ framesOf os = [] := by
  induction bs generalizing s with
  | nil => exact ⟨[], s, Run.nil s, hs, rfl⟩
  | cons b bs ih =>
    obtain ⟨hb, hrest⟩ := List.forall_mem_cons.1 hbs
    rcases hb with rfl | rfl
    · obtain ⟨os, t, hrun, ht, hos⟩ := ih hrest (s := { s with out := .nak }) hs
      exact ⟨_, t, Run.cons (rxByRule_offer_of_next (rxByRule_idle_nak hs)) hrun, ht, hos⟩
    · obtain ⟨os, t, hrun, ht, hos⟩ := ih hrest (s := { s with out := .quiet }) hs
      exact ⟨_, t, Run.cons (rxByRule_offer_of_next (rxByRule_idle_syn hs)) hrun, ht, hos⟩

/-- A stream of frames, each after a gap, emits the records of these frames. -/
theorem run_stream {l : List (List Byte × InboundFrame)}
    (hl : ∀ x ∈ l, x.2.fits = true ∧ ∀ b ∈ x.1, b = 0x15 ∨ b = 0x16) {s : State} (hs : s.st = .idle) :
    ∃ os t, Run s (l.flatMap fun x => x.1 ++ x.2.bytes) os t ∧ t.st = .idle ∧
      framesOf os = l.map fun x => x.2.record := by
  induction l generalizing s with
  | nil => exact ⟨[], s, Run.nil s, hs, rfl⟩
  | cons x l ih =>
    obtain ⟨⟨hfits, hgap⟩, hrest⟩ := List.forall_mem_cons.1 hl
    obtain ⟨os₁, t₁, hrun₁, ht₁, hos₁⟩ := run_gap hgap hs
    obtain ⟨t₂, hrun₂, ht₂, -⟩ := run_frame hfits ht₁
    obtain ⟨os₃, t₃, hrun₃, ht₃, hos₃⟩ := ih hrest ht₂
    refine ⟨_, t₃, Run.trans (Run.trans hrun₁ hrun₂) hrun₃, ht₃, ?_⟩
    rw [framesOf_append, framesOf_append, framesOf_append, framesOf_replicate_quiet, hos₁, hos₃]
    rfl

/-- Settles O46, by induction on the stream. -/
theorem framesBackToBack : Obligations.FramesBackToBack := fun _ _ hs hl =>
  let ⟨os, t, hrun, ht, hos⟩ := run_stream hl hs
  ⟨os, t, hrun.observe_eq rfl, ht, hos⟩

end Sys2Proof.Machine
end

section
/-! The StatusDecoder's result bit by bit (43_status.md R201 to R224): each gate, fault code and condition as the bits of
the status block that give it, and its place in the packed result. -/

namespace Sys2Proof.Machine

open Sys2Proof

/-- `sd_out` and `frame_dec` hold a packed result in the layout of R222: the conditions lie at their own numbers, the
fault codes ten places higher. -/
theorem StatusResult.laidOut_pack (r : StatusResult) : r.laidOut r.pack := by
  have hfault (k : DeviceFault) : r.pack.getLsbD (10 + k.bitNo) = true ↔ k ∈ r.faultSet := by
    rw [← getLsbD_faultBits, getLsbD_pack r (by cases k <;> decide), if_neg (by omega),
      if_pos (by cases k <;> decide), Nat.add_sub_cancel_left]
  have hcond (c : Condition) : r.pack.getLsbD c.bitNo = true ↔ c ∈ r.condSet := by
    rw [← getLsbD_condBits, getLsbD_pack r (by cases c <;> decide), if_pos (by cases c <;> decide)]
  exact ⟨getLsbD_pack r (k := 20) (by decide), getLsbD_pack r (k := 19) (by decide),
    getLsbD_pack r (k := 18) (by decide),
    hfault .invalidCommand, hfault .syntaxError, hfault .notAllowedInMode, hfault .arithOverflow, hfault .outOfPaper,
    hfault .fmWriteError, hfault .fmFull, hfault .fmReadOnly,
    hcond .displayDisconnected, hcond .datetimeNotSet, hcond .fmLowBlocks, hcond .ibfm, hcond .pib,
    hcond .nonfiscalReceiptOpen, hcond .fiscalReceiptOpen, hcond .taxGroupsSet, hcond .fiscalMode,
    hcond .fmFormatted⟩

/-- Settles O53: both ports show a packed result, that of the transaction or that of the frame's record. -/
theorem statusPacking : Obligations.StatusPacking := by
  refine ⟨fun s0 s1 s2 s3 s4 s5 s => ?sdOut, fun s hs hn => ?frameDec⟩
  case sdOut => exact ⟨_, _, _, rfl, rfl, rfl, rfl, StatusResult.laidOut_pack _⟩
  case frameDec =>
    have hrow : exec .rxTermOk s = .next { s with st := .idle, out := .frame (frameRec s) } :=
      (exec_row rfl rfl s).trans (rxByRule_terminator_ok hs hn)
    exact ⟨_, frameRec s, _, (exec_rxByte_eq_row rfl rfl s).trans hrow, hrow, rfl, rfl, rfl,
      StatusResult.laidOut_pack _⟩

section
variable (b : Vector Byte 6)

/-- R201. -/
theorem gateFatal_eq_getElem : gateFatal b = b[0][5] := by
  simp [gateFatal, bit_eq_getElem]

/-- R202. -/
theorem gateFm_eq_getElem : gateFm b = b[4][5] := by
  simp [gateFm, bit_eq_getElem]

/-- R211. -/
theorem isError_iff : (statusDecode b).isError = true ↔ b[0][5] = true ∨ b[4][5] = true := by
  simp [statusDecode, gateFatal_eq_getElem, gateFm_eq_getElem]

/-- The bits that put a fault code in the set: the gate of its group and its own bit (R203 to R210). -/
theorem mem_faultSet_iff_bits (k : DeviceFault) : k ∈ (statusDecode b).faultSet ↔
    match k with
    | .invalidCommand => b[0][5] = true ∧ b[0][1] = true
    | .syntaxError => b[0][5] = true ∧ b[0][0] = true
    | .notAllowedInMode => b[0][5] = true ∧ b[1][1] = true
    | .arithOverflow => b[0][5] = true ∧ b[1][0] = true
    | .outOfPaper => b[0][5] = true ∧ b[2][0] = true
    | .fmWriteError => b[4][5] = true ∧ b[4][0] = true
    | .fmFull => b[4][5] = true ∧ b[4][4] = true
    | .fmReadOnly => b[4][5] = true ∧ b[5][0] = true := by
  rw [mem_faultSet]
  cases k with
  | invalidCommand | syntaxError | notAllowedInMode | arithOverflow | outOfPaper =>
    simp [faultHolds, gateFatal_eq_getElem, bit_eq_getElem]
  | fmWriteError | fmFull | fmReadOnly => simp [faultHolds, gateFm_eq_getElem, bit_eq_getElem]

/-- The bit that puts a condition in the set (R212 to R221). -/
theorem mem_condSet_iff_bit (c : Condition) : c ∈ (statusDecode b).condSet ↔
    match c with
    | .displayDisconnected => b[0][3] = true
    | .datetimeNotSet => b[0][2] = true
    | .fmLowBlocks => b[4][3] = true
    | .ibfm => b[4][2] = true
    | .pib => b[4][1] = true
    | .nonfiscalReceiptOpen => b[2][5] = true
    | .fiscalReceiptOpen => b[2][3] = true
    | .taxGroupsSet => b[5][4] = true
    | .fiscalMode => b[5][3] = true
    | .fmFormatted => b[5][1] = true := by
  rw [mem_condSet]
  cases c <;> simp [condHolds, bit_eq_getElem]

/-- A fault code in the set has the gate of its group, so it comes with the error summary. -/
theorem isError_of_mem_faultSet {k : DeviceFault} (hk : k ∈ (statusDecode b).faultSet) :
    (statusDecode b).isError = true := by
  rw [isError_iff]
  have hbits := (mem_faultSet_iff_bits b k).1 hk
  cases k with
  | invalidCommand | syntaxError | notAllowedInMode | arithOverflow | outOfPaper => exact .inl hbits.1
  | fmWriteError | fmFull | fmReadOnly => exact .inr hbits.1

end

/-- Settles O50: the gate, and the five codes by their bits. -/
theorem fatalFaultGroup : Obligations.FatalFaultGroup := by
  intro s0 s1 s2 s3 s4 s5 s
  have hmem := mem_faultSet_iff_bits #v[s0, s1, s2, s3, s4, s5]
  exact ⟨_, rfl, Bool.eq_iff_iff.1 (gateFatal_eq_getElem _), hmem .invalidCommand, hmem .syntaxError,
    hmem .notAllowedInMode, hmem .arithOverflow, hmem .outOfPaper⟩

/-- Settles O51: the gate, the three codes by their bits, and the error summary by the two gates. -/
theorem fiscalMemoryFaultGroup : Obligations.FiscalMemoryFaultGroup := by
  intro s0 s1 s2 s3 s4 s5 s
  have hmem := mem_faultSet_iff_bits #v[s0, s1, s2, s3, s4, s5]
  exact ⟨_, rfl, Bool.eq_iff_iff.1 (gateFm_eq_getElem _), hmem .fmWriteError, hmem .fmFull, hmem .fmReadOnly,
    isError_iff _⟩

/-- Settles O52: the ten conditions by their bits. -/
theorem advisoryConditions : Obligations.AdvisoryConditions := by
  intro s0 s1 s2 s3 s4 s5 s
  have hmem := mem_condSet_iff_bit #v[s0, s1, s2, s3, s4, s5]
  exact ⟨_, rfl, hmem .displayDisconnected, hmem .datetimeNotSet, hmem .fmLowBlocks, hmem .ibfm, hmem .pib,
    hmem .nonfiscalReceiptOpen, hmem .fiscalReceiptOpen, hmem .taxGroupsSet, hmem .fiscalMode, hmem .fmFormatted⟩

/-- A bit inside a mask that selects nothing is clear. -/
theorem bit_eq_false_of_and_eq_zero {x M m : Byte} (h : x &&& M = 0) (hm : M &&& m = m) : bit x m = false := by
  rw [bit_congr (y := 0) (h.trans BitVec.zero_and.symm) hm]
  simp [bit]

/-- Settles O55: a fault code comes with the error summary, which is a gate; and without its own bit no code is in the
set. -/
theorem gateAndCodesApart : Obligations.GateAndCodesApart := by
  intro s0 s1 s2 s3 s4 s5
  have hno {k : DeviceFault} {g c : Bool} (hk : faultHolds #v[s0, s1, s2, s3, s4, s5] k = (g && c)) (hc : c = false) :
      k ∉ (statusDecode #v[s0, s1, s2, s3, s4, s5]).faultSet := by
    rw [mem_faultSet, hk, hc, Bool.and_false]
    exact Bool.false_ne_true
  refine ⟨fun hfatal hfm => ?gatesClear, fun hfatal h0 h1 h2 => ⟨(isError_iff _).2 (.inl hfatal), ?group1⟩,
    fun hfm h4 h5 => ⟨(isError_iff _).2 (.inr hfm), ?group2⟩⟩
  case gatesClear =>
    have herr : ¬ (statusDecode #v[s0, s1, s2, s3, s4, s5]).isError = true := by
      rw [isError_iff]
      simp [hfatal, hfm]
    exact ⟨List.eq_nil_iff_forall_not_mem.2 fun k hk => herr (isError_of_mem_faultSet _ hk), Bool.eq_false_of_not_eq_true herr⟩
  case group1 =>
    simp only [List.forall_mem_cons]
    exact ⟨hno rfl (bit_eq_false_of_and_eq_zero h0 rfl), hno rfl (bit_eq_false_of_and_eq_zero h0 rfl),
      hno rfl (bit_eq_false_of_and_eq_zero h1 rfl), hno rfl (bit_eq_false_of_and_eq_zero h1 rfl),
      hno rfl (bit_eq_false_of_and_eq_zero h2 rfl), List.forall_mem_nil _⟩
  case group2 =>
    simp only [List.forall_mem_cons]
    exact ⟨hno rfl (bit_eq_false_of_and_eq_zero h4 rfl), hno rfl (bit_eq_false_of_and_eq_zero h4 rfl),
      hno rfl (bit_eq_false_of_and_eq_zero h5 rfl), List.forall_mem_nil _⟩

end Sys2Proof.Machine
end

section
/-! The error responses of 60_exceptions.md R247: each comes out of one cause, and `err_code` tells the four apart. -/

namespace Sys2Proof

open Sys2Proof.Machine

/-- What R247 says returns an error response: a transaction with operands out of its range, or the reserved `op`. -/
def Instr.ErrCause (i : Instr) : ErrCode → Prop
  | .beTooLong => ∃ cmd data, i = .build cmd data ∧ 219 < data.length
  | .ceTooLong => ∃ lb sq cmd data, i = .cksumCompute lb sq cmd data ∧ 219 < data.length
  | .ceBadDigit => ∃ c0 c1 c2 c3, i = .cksumDecode c0 c1 c2 c3 ∧
      ∃ c ∈ [c0, c1, c2, c3], c.toNat < 0x30 ∨ 0x3F < c.toNat
  | .oeReserved => i = .reservedOp

end Sys2Proof

namespace Sys2Proof.Machine

open Sys2Proof

theorem isDigit_eq_false_iff (c : Byte) : isDigit c = false ↔ c.toNat < 0x30 ∨ 0x3F < c.toNat := by
  rw [Bool.eq_false_iff, ne_eq, isDigit_iff]
  omega

/-! ### The port -/

theorem ErrCode.code_ne_zero (e : ErrCode) : e.code ≠ 0 := by
  cases e <;> decide

theorem ErrCode.code_inj {e e' : ErrCode} : e.code = e'.code ↔ e = e' := by
  cases e <;> cases e' <;> decide

theorem ErrCode.code_toNat_le (e : ErrCode) : e.code.toNat ≤ 4 := by
  cases e <;> decide

/-- `err_code` shows the error response on the outputs, or 0 when there is none. -/
theorem State.errCodeOut_cases (s : State) :
    (∃ e, s.out = .err e ∧ s.errCodeOut = e.code) ∨ (∀ e, s.out ≠ .err e) ∧ s.errCodeOut = 0 := by
  unfold State.errCodeOut
  cases hout : s.out
  case err e => exact .inl ⟨e, rfl, rfl⟩
  all_goals exact .inr ⟨nofun, rfl⟩

theorem State.errCodeOut_eq_code_iff (s : State) (e : ErrCode) : s.errCodeOut = e.code ↔ s.out = .err e := by
  rcases s.errCodeOut_cases with ⟨e', hout, hcode⟩ | ⟨hout, hcode⟩
  · rw [hcode, hout, ErrCode.code_inj, Output.err.injEq]
  · rw [hcode]
    exact iff_of_false e.code_ne_zero.symm (hout e)

theorem State.errCodeOut_toNat_le (s : State) : s.errCodeOut.toNat ≤ 4 := by
  rcases s.errCodeOut_cases with ⟨e, -, hcode⟩ | ⟨-, hcode⟩
  · rw [hcode]
    exact e.code_toNat_le
  · rw [hcode]
    decide

/-! ### The causes -/

/-- A received byte is never answered with an error response (R244, R247). -/
theorem out_ne_err_of_rxByRule {b : Byte} {s t : State} (h : rxByRule b s = .next t) (e : ErrCode) :
    t.out ≠ .err e := by
  rcases rxByRule_cases h with ⟨-, -, rfl⟩ | ⟨-, -, rfl⟩ | ⟨-, -, rfl⟩ | ⟨-, -, rfl⟩ | ⟨-, rfl⟩ | ⟨-, rfl⟩ |
    ⟨-, -, rfl⟩ | ⟨-, -, rfl⟩ | ⟨-, -, rfl⟩ | ⟨-, -, rfl⟩ | ⟨-, -, rfl⟩ | ⟨-, -, -, rfl⟩ | ⟨-, rfl⟩ |
    ⟨-, kind, -, rfl⟩ <;> nofun

section
variable {i : Instr} {s t : State} {e : ErrCode}

theorem errCause_of_encoderSide (henc : i.encoderSide = true) (h : exec i s = .next t) (hout : t.out = .err e) :
    i.ErrCause e := by
  cases i <;> simp only [Instr.encoderSide, Bool.false_eq_true] at henc
  case nop =>
    cases h
    cases hout
  case build cmd data =>
    cases (exec_build s).symm.trans h
    rcases Nat.lt_or_ge 219 data.length with hlong | hlen
    · cases (buildOut_of_lt hlong).symm.trans hout
      exact ⟨_, _, rfl, hlong⟩
    · cases (buildOut_of_le hlen).symm.trans hout
  case cksumCompute lb sq cmd data =>
    cases (exec_cksumCompute s).symm.trans h
    rcases Nat.lt_or_ge 219 data.length with hlong | hlen
    · cases (cksumComputeOut_of_lt hlong).symm.trans hout
      exact ⟨_, _, _, _, rfl, hlong⟩
    · cases (cksumComputeOut_of_le hlen).symm.trans hout
  case cksumDecode c0 c1 c2 c3 =>
    cases (exec_cksumDecode s).symm.trans h
    by_cases hbad : ∃ c ∈ [c0, c1, c2, c3], isDigit c = false
    · cases (cksumDecodeOut_of_not_isDigit hbad).symm.trans hout
      simp only [isDigit_eq_false_iff] at hbad
      exact ⟨_, _, _, _, rfl, hbad⟩
    · simp only [not_exists, not_and, Bool.not_eq_false, List.forall_mem_cons] at hbad
      obtain ⟨h0, h1, h2, h3, -⟩ := hbad
      obtain ⟨v, -, hv⟩ := cksumDecodeOut_of_isDigit h0 h1 h2 h3
      cases hv.symm.trans hout
  case statusDecode =>
    cases h
    cases hout
  case reservedOp =>
    cases h
    cases hout
    rfl

/-- An error response has its cause: RESET, DEC_CLEAR and the received bytes return none. -/
theorem errCause_of_exec (h : exec i s = .next t) (hout : t.out = .err e) : i.ErrCause e := by
  rcases instr_sides i with rfl | rfl | henc | ⟨hdec, hclear⟩
  · cases h
    cases hout
  · cases h
    cases hout
  · exact errCause_of_encoderSide henc h hout
  · obtain ⟨b, hrule⟩ := exec_decoderSide hdec hclear
    exact absurd hout (out_ne_err_of_rxByRule ((hrule s).symm.trans h) e)

/-- Each cause is answered with its error response, and no register changes (R244). -/
theorem exec_of_errCause (hcause : i.ErrCause e) (s : State) : exec i s = .next { s with out := .err e } := by
  cases e
  case beTooLong =>
    obtain ⟨cmd, data, rfl, hlong⟩ := hcause
    exact exec_build_of_lt hlong s
  case ceTooLong =>
    obtain ⟨lb, sq, cmd, data, rfl, hlong⟩ := hcause
    rw [exec_cksumCompute, cksumComputeOut_of_lt hlong]
  case ceBadDigit =>
    obtain ⟨c0, c1, c2, c3, rfl, hbad⟩ := hcause
    simp only [← isDigit_eq_false_iff] at hbad
    rw [exec_cksumDecode, cksumDecodeOut_of_not_isDigit hbad]
  case oeReserved =>
    cases hcause
    exact exec_reservedOp s

theorem errCodeOut_eq_code_iff_errCause (h : exec i s = .next t) (e : ErrCode) :
    t.errCodeOut = e.code ↔ i.ErrCause e := by
  rw [State.errCodeOut_eq_code_iff]
  refine ⟨errCause_of_exec h, fun hcause => ?_⟩
  cases (exec_of_errCause hcause s).symm.trans h
  rfl

end

/-- Settles O12: `err_code` is a response's code exactly when the transaction is that response's cause. -/
theorem errorCodesOnPort : Obligations.ErrorCodesOnPort := fun _ _ t h =>
  ⟨errCodeOut_eq_code_iff_errCause h .beTooLong, errCodeOut_eq_code_iff_errCause h .ceTooLong,
    errCodeOut_eq_code_iff_errCause h .ceBadDigit, errCodeOut_eq_code_iff_errCause h .oeReserved,
    t.errCodeOut_toNat_le, bne_iff_ne⟩

end Sys2Proof.Machine
end

section
/-! FramingFaults and FAULTED (60_exceptions.md R241 to R243): what a fault writes, that `EvFault` comes of nothing else,
and what leaves the state. -/

namespace Sys2Proof.Machine

open Sys2Proof

section
variable {i : Instr} {b : Byte} {s t : State}

/-- A received byte raises a FramingFault from outside FAULTED, or does not bring the decoder there and emits no
`EvFault`. -/
theorem raised_or_not_of_rxByRule (h : rxByRule b s = .next t) :
    (s.st ≠ .faulted ∧ ∃ k, k ≠ FaultKind.none ∧ t = s.raiseFramingFault k) ∨
    ((t.st = .faulted → s.st = .faulted) ∧ ∀ k, t.out ≠ .fault k) := by
  rcases rxByRule_cases h with ⟨hst, -, rfl⟩ | ⟨hst, -, rfl⟩ | ⟨hst, -, rfl⟩ | ⟨hst, -, rfl⟩ | ⟨hst, rfl⟩ | ⟨hst, rfl⟩ |
    ⟨hst, -, rfl⟩ | ⟨hst, -, rfl⟩ | ⟨hst, -, rfl⟩ | ⟨hst, -, rfl⟩ | ⟨hst, -, rfl⟩ | ⟨hst, -, -, rfl⟩ | ⟨hst, rfl⟩ |
    hraised
  on_goal 14 => exact .inl hraised
  all_goals exact .inr ⟨by simp [hst, ite_eq_iff], nofun⟩

/-- The same of every transaction: those of the encoder side leave `ST` alone, RESET and DEC_CLEAR end in IDLE. -/
theorem raised_or_not_of_exec (h : exec i s = .next t) :
    (s.st ≠ .faulted ∧ ∃ k, k ≠ FaultKind.none ∧ t = s.raiseFramingFault k) ∨
    ((t.st = .faulted → s.st = .faulted) ∧ ∀ k, t.out ≠ .fault k) := by
  rcases instr_sides i with rfl | rfl | henc | ⟨hdec, hclear⟩
  · cases h
    exact .inr ⟨nofun, nofun⟩
  · cases h
    exact .inr ⟨nofun, nofun⟩
  · obtain ⟨v, o, ho, hexec⟩ := exec_encoderSide henc s
    cases (hexec s rfl).symm.trans h
    exact .inr ⟨id, ho⟩
  · obtain ⟨b, hrule⟩ := exec_decoderSide hdec hclear
    exact raised_or_not_of_rxByRule ((hrule s).symm.trans h)

/-- RX_BYTE and each of its rows run the rule that the state and their byte choose (R150). -/
theorem exec_of_rxOperand (hb : i.rxOperand = some b) (s : State) : exec i s = rxByRule b s := by
  cases hrow : i.isRow
  case true => exact exec_row hrow hb s
  case false =>
    cases i <;> simp only [Instr.isRow, Instr.rxOperand, reduceCtorEq, Option.some.injEq] at hrow hb
    case rxByte =>
      subst hb
      rfl

/-- A transaction other than RESET and DEC_CLEAR completes in FAULTED with at most `SEQCTR` and the output written, and
raises no second fault (R243). -/
theorem exec_of_faulted (hst : s.st = .faulted) (hreset : i ≠ .reset) (hclear : i ≠ .decClear) :
    ∃ (v : Byte) (o : Output), (∀ k, o ≠ .fault k) ∧ exec i s = .next { s with seqctr := v, out := o } := by
  rcases instr_sides i with rfl | rfl | henc | ⟨hdec, -⟩
  · exact absurd rfl hreset
  · exact absurd rfl hclear
  · obtain ⟨v, o, ho, hexec⟩ := exec_encoderSide henc s
    exact ⟨v, o, ho, hexec s rfl⟩
  · obtain ⟨b, hrule⟩ := exec_decoderSide hdec hclear
    exact ⟨s.seqctr, .quiet, nofun, (hrule s).trans (rxByRule_faulted hst)⟩

end

/-- Settles O39: a transaction either raises the fault, and then it is R241's, or it neither enters FAULTED nor emits
`EvFault`. -/
theorem framingFaultIsPrecise : Obligations.FramingFaultIsPrecise := by
  intro i s t h
  rcases raised_or_not_of_exec h with ⟨hs, k, hk, rfl⟩ | ⟨hst, hout⟩
  · refine ⟨fun _ _ => ⟨k, hk, rfl⟩, fun k' hout => ?_⟩
    cases hout
    exact ⟨hs, rfl, rfl⟩
  · exact ⟨fun hs ht => absurd (hst ht) hs, fun k hk => absurd hk (hout k)⟩

/-- Settles O40: R168 drops the byte, `exec_of_faulted` keeps the state and the kind, and the encoder side reads `SEQCTR`
alone. -/
theorem faultedIsSticky : Obligations.FaultedIsSticky := by
  intro i s hst
  refine ⟨fun b hb => ?dropped, fun hreset hclear => ?kept, ?left, fun henc u hu => ?encoder⟩
  case dropped => rw [exec_of_rxOperand hb, rxByRule_faulted hst]
  case kept =>
    obtain ⟨v, o, ho, hexec⟩ := exec_of_faulted hst hreset hclear
    exact ⟨_, hexec, hst, rfl, ho⟩
  case left =>
    rintro (rfl | rfl)
    · exact ⟨_, rfl, rfl, rfl⟩
    · exact ⟨_, rfl, rfl, rfl⟩
  case encoder =>
    obtain ⟨v, o, -, hexec⟩ := exec_encoderSide henc s
    exact ⟨_, _, hexec s rfl, hexec u hu, rfl, rfl⟩

end Sys2Proof.Machine
end

section
/-! The two transactions that clear the block (70_reset_and_hazards.md R280, R281), each through the operations it is made
of, and the ports that select it. -/

namespace Sys2Proof.Machine

open Sys2Proof

/-- R280: `clearDecoder` gives `ST`, `FAULT_KIND` and the counts, `drawUnspecified` keeps them, and `SEQCTR` restarts. -/
theorem exec_reset (s : State) :
    exec .reset s = .next ({ s.clearDecoder.drawUnspecified with seqctr := 0x22 }.emit .quiet) := rfl

/-- R281: `clearDecoder` and no event, with no register drawn and `SEQCTR` kept. -/
theorem exec_decClear (s : State) : exec .decClear s = .next (s.clearDecoder.emit .quiet) := rfl

/-- Settles O7: the registers are read off the state of `exec_reset`, and `decode` tests `rst` before `op`. -/
theorem resetTransaction : Obligations.ResetTransaction := by
  refine ⟨fun s => ⟨_, exec_reset s, ?registers⟩, fun _ => decode_of_rst⟩
  case registers => simp

/-- Settles O9: the record update is `exec_decClear`'s state written out; `op = 0b110` without `rst` selects it. -/
theorem decClearTransaction : Obligations.DecClearTransaction :=
  ⟨exec_decClear, fun _ => decode_of_selects_decClear⟩

end Sys2Proof.Machine
end

section
/-! Decoding what `encode` drives (30_encoding.md R91, R93): a transaction comes back with its operands, and a row of
RX_BYTE is the one row of the opcode table that the state and its byte select (42_decoder.md R150). -/

namespace Sys2Proof

/-! ### The transactions -/

theorem decode_encode_cksumCompute {lb sq cmd : Byte} {data : List Byte} (h : payloadFits data = true) :
    decode (encode (.cksumCompute lb sq cmd data)) = .cksumCompute lb sq cmd data := by
  have hsel : (encode (.cksumCompute lb sq cmd data)).selects 0b011 := ⟨rfl, rfl⟩
  rw [decode_of_selects_cksumCompute hsel]
  exact congrArg (Instr.cksumCompute lb sq cmd) (payloadOf_payloadPort h)

/-- Settles O1: each transaction's ports select it by its `op`, and a payload that fits comes back whole. -/
theorem decodeEncodeTransactions : Obligations.DecodeEncodeTransactions := by
  intro i hwf hrow
  cases i with
  | reset => rfl
  | nop => exact decode_null
  | rxByte b => exact decode_rxPorts b
  | build cmd data => exact decode_encode_build hwf
  | cksumCompute lb sq cmd data => exact decode_encode_cksumCompute hwf
  | cksumDecode c0 c1 c2 c3 => exact decode_of_selects_cksumDecode ⟨rfl, rfl⟩
  | statusDecode s0 s1 s2 s3 s4 s5 => exact decode_of_selects_statusDecode ⟨rfl, rfl⟩
  | decClear => exact decode_of_selects_decClear ⟨rfl, rfl⟩
  | reservedOp => exact decode_of_selects_reservedOp ⟨rfl, rfl⟩
  | _ => cases hrow

/-- Settles O4: a word below 8 is the `op` of a transaction with every operand port 0, and in IDLE the bytes 0x15 and
0x16 select their rows. -/
theorem tableWordsDecode : Obligations.TableWordsDecode :=
  ⟨rfl, rfl, rfl, rfl, rfl, rfl, rfl, rfl, rfl, rfl, rfl⟩

/-! ### The rows of RX_BYTE -/

section
variable {i : Instr} {st : DecState} {b : Byte}

theorem exists_rxOperand_of_isRow (h : i.isRow = true) : ∃ b, i.rxOperand = some b := by
  cases i <;> simp [Instr.isRow, Instr.rxOperand] at h ⊢

/-- A row drives the ports of RX_BYTE with the row's byte. -/
theorem encode_of_isRow (hrow : i.isRow = true) (hb : i.rxOperand = some b) : encode i = rxPorts b := by
  cases i <;> simp only [Instr.isRow, Instr.rxOperand, Bool.false_eq_true, Option.some.injEq] at hrow hb <;> rw [← hb] <;>
    rfl

theorem rxRow_idle_other (hpre : b ≠ Config.preamble) (hnak : b ≠ Config.nak) (hsyn : b ≠ Config.syn) :
    rxRow .idle b = .rxIdleOther b :=
  (if_neg hnak).trans ((if_neg hsyn).trans (if_neg hpre))

/-- The row selected by a state and a byte is a well-formed row of that state with that byte. -/
theorem rxRow_spec (st : DecState) (b : Byte) : (rxRow st b).isRow = true ∧ (rxRow st b).wellFormed = true ∧
    (rxRow st b).rowState st = true ∧ (rxRow st b).rxOperand = some b := by
  cases st with
  | readingSequence | readingCommand | readingData | readingStatus | readingChecksum | faulted =>
    exact ⟨rfl, rfl, rfl, rfl⟩
  | reserved k => exact ⟨rfl, rfl, by simp [rxRow, Instr.rowState], rfl⟩
  | idle | readingLength | expectDelimiter | expectPostamble | expectTerminator =>
    simp only [rxRow]
    split_ifs <;> simp_all [Instr.isRow, Instr.wellFormed, Instr.rowState, Instr.rxOperand]

/-- It is the only one: the rows of one state have disjoint classes of bytes. -/
theorem eq_rxRow (hrow : i.isRow = true) (hwf : i.wellFormed = true) (hst : i.rowState st = true)
    (hb : i.rxOperand = some b) : i = rxRow st b := by
  cases i <;> simp only [Instr.isRow, Instr.wellFormed, Instr.rowState, Instr.rxOperand, Bool.false_eq_true,
    Bool.and_eq_true, bne_iff_ne, decide_eq_true_eq, beq_iff_eq, List.any_eq_true, Option.some.injEq]
    at hrow hwf hst hb <;> subst hb
  case rxReservedState c =>
    obtain ⟨k, -, rfl⟩ := hst
    rfl
  all_goals subst hst
  case rxIdleOther c =>
    obtain ⟨⟨hpre, hnak⟩, hsyn⟩ := hwf
    exact (rxRow_idle_other hpre hnak hsyn).symm
  case rxLenOk c => exact (if_pos hwf).symm
  case rxLenNeg c => exact (if_neg (Nat.not_le.2 hwf)).symm
  case rxDelimBad c => exact (if_neg hwf).symm
  case rxPostBad c => exact (if_neg hwf).symm
  case rxTermBad c => exact (if_neg hwf).symm
  all_goals rfl

end

/-- Settles O2: the row's ports are those of RX_BYTE with its byte, from which `decodeIn` selects the one row there is. -/
theorem decodeEncodeRows : Obligations.DecodeEncodeRows := by
  intro i st hwf hrow hst
  obtain ⟨b, hb⟩ := exists_rxOperand_of_isRow hrow
  rw [encode_of_isRow hrow hb, decodeIn_rxPorts]
  exact (eq_rxRow hrow hwf hst hb).symm

end Sys2Proof

namespace Sys2Proof.Machine

open Sys2Proof

/-- Settles O24: the one row is `rxRow`'s, and every row runs the rule of the state and its byte. -/
theorem rxByteRunsOneRow : Obligations.RxByteRunsOneRow :=
  ⟨fun st b => ⟨rxRow st b, rxRow_spec st b, fun _ ⟨hrow, hwf, hst, hb⟩ => eq_rxRow hrow hwf hst hb⟩,
    fun _ s _ hrow _ _ hb => exec_rxByte_eq_row hrow hb s⟩

end Sys2Proof.Machine
end

section
/-! When RX_BYTE completes (42_decoder.md R150, R169): outside the reserved codes, wherever the buffer entry that the
rule of the state names exists; without the entry the model stops by name. -/

namespace Sys2Proof.Machine

open Sys2Proof

section
variable {b : Byte} {s : State}

theorem rxByRule_data_missing (h : s.st = .readingData) (hd : 212 ≤ s.dcnt.toNat) :
    rxByRule b s = .fault .bufferIndexOutOfRange := by
  cases s
  cases h
  exact if_neg (Nat.not_lt.2 hd)

theorem rxByRule_status_missing (h : s.st = .readingStatus) (hd : 6 ≤ s.scnt.toNat) :
    rxByRule b s = .fault .bufferIndexOutOfRange := by
  cases s
  cases h
  exact if_neg (Nat.not_lt.2 hd)

theorem rxByRule_checksum_missing (h : s.st = .readingChecksum) (hd : 4 ≤ s.ccnt.toNat) :
    rxByRule b s = .fault .bufferIndexOutOfRange := by
  cases s
  cases h
  exact if_neg (Nat.not_lt.2 hd)

theorem rxByRule_terminator_missing (h : s.st = .expectTerminator) (hn : 212 < s.nlen.toNat) :
    rxByRule Config.terminator s = .fault .bufferIndexOutOfRange := by
  cases s
  cases h
  exact if_neg (Nat.not_le.2 hn)

/-- The buffer entries that the rule of the state `ST` names exist (R159, R162, R165, R166). -/
structure State.EntryExists (s : State) : Prop where
  data : s.st = .readingData → s.dcnt.toNat < 212
  status : s.st = .readingStatus → s.scnt.toNat < 6
  checksum : s.st = .readingChecksum → s.ccnt.toNat < 4
  terminator : s.st = .expectTerminator → s.nlen.toNat ≤ 212

/-- Each state's rule answers a next state, whichever byte comes. -/
theorem rxByRule_completes (hst : s.stLegal = true) (hentry : s.EntryExists) (b : Byte) :
    ∃ t, rxByRule b s = .next t := by
  cases h : s.st with
  | idle =>
    by_cases hnak : b = Config.nak
    · exact ⟨_, hnak ▸ rxByRule_idle_nak h⟩
    by_cases hsyn : b = Config.syn
    · exact ⟨_, hsyn ▸ rxByRule_idle_syn h⟩
    by_cases hpre : b = Config.preamble
    · exact ⟨_, hpre ▸ rxByRule_idle_preamble h⟩
    exact ⟨_, rxByRule_idle_other h hpre hnak hsyn⟩
  | readingLength =>
    rcases Nat.lt_or_ge b.toNat 0x2B with hb | hb
    · exact ⟨_, rxByRule_length_neg h hb⟩
    · exact ⟨_, rxByRule_length_ok h hb⟩
  | readingSequence => exact ⟨_, rxByRule_sequence h⟩
  | readingCommand => exact ⟨_, rxByRule_command h⟩
  | readingData => exact ⟨_, rxByRule_data h (hentry.data h)⟩
  | expectDelimiter =>
    by_cases hb : b = Config.delimiter
    · exact ⟨_, hb ▸ rxByRule_delimiter_ok h⟩
    · exact ⟨_, rxByRule_delimiter_bad h hb⟩
  | readingStatus => exact ⟨_, rxByRule_status h (hentry.status h)⟩
  | expectPostamble =>
    by_cases hb : b = Config.postamble
    · exact ⟨_, hb ▸ rxByRule_postamble_ok h⟩
    · exact ⟨_, rxByRule_postamble_bad h hb⟩
  | readingChecksum => exact ⟨_, rxByRule_checksum h (hentry.checksum h)⟩
  | expectTerminator =>
    by_cases hb : b = Config.terminator
    · exact ⟨_, hb ▸ rxByRule_terminator_ok h (hentry.terminator h)⟩
    · exact ⟨_, rxByRule_terminator_bad h hb⟩
  | faulted => exact ⟨_, rxByRule_faulted h⟩
  | reserved k => simp [State.stLegal, h] at hst

end

/-- Settles O25: a row is the rule of the state and its byte, which completes where its entry exists. -/
theorem rowsAreRxByte : Obligations.RowsAreRxByte := by
  intro i b s hrow hb
  refine ⟨exec_row hrow hb s, fun hst hdata hstatus hchecksum hterm => ?_⟩
  rw [exec_row hrow hb s]
  exact rxByRule_completes hst ⟨hdata, hstatus, hchecksum, hterm⟩ b

/-- Settles O38: past the end of its buffer, each of the four rules faults. -/
theorem missingEntryFaults : Obligations.MissingEntryFaults := fun _ s =>
  ⟨fun h hd => (exec_row rfl rfl s).trans (rxByRule_data_missing h hd),
    fun h hd => (exec_row rfl rfl s).trans (rxByRule_status_missing h hd),
    fun h hd => (exec_row rfl rfl s).trans (rxByRule_checksum_missing h hd),
    fun h hn => (exec_row rfl rfl s).trans (rxByRule_terminator_missing h hn)⟩

/-- In a transparent state RX_BYTE goes on to one state, not FAULTED, whichever byte comes (R172). -/
theorem exists_next_of_transparent {s : State} (hst : s.st = .readingSequence ∨ s.st = .readingCommand ∨
      s.st = .readingData ∨ s.st = .readingStatus ∨ s.st = .readingChecksum) :
    ∃ d, d ≠ DecState.faulted ∧ ∀ b t, rxByRule b s = .next t → t.st = d ∧ t.out = .quiet := by
  rcases hst with hst | hst | hst | hst | hst
  · refine ⟨.readingCommand, nofun, fun b t h => ?_⟩
    cases (rxByRule_sequence hst).symm.trans h
    exact ⟨rfl, rfl⟩
  · refine ⟨if s.nlen = 0 then .expectDelimiter else .readingData, by simp [ite_eq_iff], fun b t h => ?_⟩
    cases (rxByRule_command hst).symm.trans h
    exact ⟨rfl, rfl⟩
  · refine ⟨if s.dcnt.toNat + 1 = s.nlen.toNat then .expectDelimiter else .readingData, by simp [ite_eq_iff],
      fun b t h => ?_⟩
    rcases Nat.lt_or_ge s.dcnt.toNat 212 with hd | hd
    · cases (rxByRule_data hst hd).symm.trans h
      exact ⟨rfl, rfl⟩
    · cases (rxByRule_data_missing hst hd).symm.trans h
  · refine ⟨if s.scnt.toNat + 1 = 6 then .expectPostamble else .readingStatus, by simp [ite_eq_iff], fun b t h => ?_⟩
    rcases Nat.lt_or_ge s.scnt.toNat 6 with hd | hd
    · cases (rxByRule_status hst hd).symm.trans h
      exact ⟨rfl, rfl⟩
    · cases (rxByRule_status_missing hst hd).symm.trans h
  · refine ⟨if s.ccnt.toNat + 1 = 4 then .expectTerminator else .readingChecksum, by simp [ite_eq_iff],
      fun b t h => ?_⟩
    rcases Nat.lt_or_ge s.ccnt.toNat 4 with hd | hd
    · cases (rxByRule_checksum hst hd).symm.trans h
      exact ⟨rfl, rfl⟩
    · cases (rxByRule_checksum_missing hst hd).symm.trans h

/-- Settles O42: both bytes lead to the one state there is, and each control value is below 0x2B. -/
theorem transparentStates : Obligations.TransparentStates := by
  intro b c s t u
  refine ⟨fun hst ht hu => ?transparent, fun hst hb => ?control⟩
  case transparent =>
    obtain ⟨d, hd, hnext⟩ := exists_next_of_transparent hst
    obtain ⟨ht_st, ht_out⟩ := hnext b t ht
    obtain ⟨hu_st, -⟩ := hnext c u hu
    exact ⟨ht_st.trans hu_st.symm, ht_st ▸ hd, ht_out⟩
  case control =>
    have hcontrol : ∀ x ∈ [(0x01 : Byte), 0x03, 0x04, 0x05, 0x15, 0x16], x.toNat < 0x2B := by decide
    exact rxByRule_length_neg hst (hcontrol b hb)

end Sys2Proof.Machine
end

section
/-! What the block shows and what comes out of which transaction: the status outputs as codes (30_encoding.md R92,
10_state.md R24, 60_exceptions.md R240), and each event and result by its cause (60_exceptions.md R246). -/

namespace Sys2Proof.Machine

open Sys2Proof

/-! ### The status outputs -/

/-- The decoder state of a code: the inverse of `decStateCode`. -/
def decStateOfCode (c : BitVec 4) : DecState :=
  match c.toNat with
  | 0 => .idle
  | 1 => .readingLength
  | 2 => .readingSequence
  | 3 => .readingCommand
  | 4 => .readingData
  | 5 => .expectDelimiter
  | 6 => .readingStatus
  | 7 => .expectPostamble
  | 8 => .readingChecksum
  | 9 => .expectTerminator
  | 15 => .faulted
  | n => .reserved (Fin.ofNat 5 (n - 10))

theorem decStateOfCode_decStateCode (d : DecState) : decStateOfCode (decStateCode d) = d := by
  cases d with
  | reserved k => revert k; decide
  | _ => rfl

theorem decStateCode_inj {d d' : DecState} : decStateCode d = decStateCode d' ↔ d = d' :=
  (Function.LeftInverse.injective decStateOfCode_decStateCode).eq_iff

/-- The codes 0xA to 0xE are those of the reserved states. -/
theorem decStateCode_reserved_iff (d : DecState) :
    0xA ≤ (decStateCode d).toNat ∧ (decStateCode d).toNat ≤ 0xE ↔ ∃ k, d = .reserved k := by
  cases d with
  | reserved k =>
    refine iff_of_true ?_ ⟨k, rfl⟩
    revert k
    decide
  | _ => exact iff_of_false (by decide) nofun

theorem FaultKind.code_inj {k k' : FaultKind} : k.code = k'.code ↔ k = k' := by
  cases k <;> cases k' <;> decide

theorem FaultKind.code_toNat_le (k : FaultKind) : k.code.toNat ≤ 5 := by
  cases k <;> decide

/-- Settles O13: both codings are injective. -/
theorem statusOutputs : Obligations.StatusOutputs := fun s =>
  have hst (d : DecState) : s.decStateOut = decStateCode d ↔ s.st = d := decStateCode_inj
  have hkind (k : FaultKind) : s.faultKindOut = k.code ↔ s.faultKind = k := FaultKind.code_inj
  ⟨rfl, hst .idle, hst .readingLength, hst .readingSequence, hst .readingCommand, hst .readingData,
    hst .expectDelimiter, hst .readingStatus, hst .expectPostamble, hst .readingChecksum, hst .expectTerminator,
    hst .faulted, decStateCode_reserved_iff s.st, hkind .none, hkind .malformed, hkind .negLength, hkind .delimiter,
    hkind .postamble, hkind .terminator, s.faultKind.code_toNat_le⟩

/-! ### Events and results -/

section
variable (s : State)

theorem State.evNak_iff : s.evNak = true ↔ s.out = .nak := beq_iff_eq

theorem State.evFrame_iff : s.evFrame = true ↔ ∃ r, s.out = .frame r := by
  rw [State.evFrame, State.frameOut]
  cases s.out <;> simp

theorem State.evFault_iff : s.evFault = true ↔ ∃ k, s.out = .fault k := by
  rw [State.evFault]
  cases s.out <;> simp

theorem State.txValid_iff : s.txValid = true ↔ ∃ f, s.out = .txFrame f := by
  rw [State.txValid, State.txFrameOut]
  cases s.out <;> simp

theorem State.ckOut_isSome_iff : s.ckOut.isSome = true ↔ ∃ c, s.out = .cksum c := by
  rw [State.ckOut]
  cases s.out <;> simp

theorem State.bccOut_isSome_iff : s.bccOut.isSome = true ↔ ∃ v, s.out = .bcc v := by
  rw [State.bccOut]
  cases s.out <;> simp

theorem State.sdOut_isSome_iff : s.sdOut.isSome = true ↔ ∃ r, s.out = .status r := by
  rw [State.sdOut]
  cases s.out <;> simp

end

/-- What R246 and R247 name as the cause of an output of the transaction `i` in the state `s`. -/
def OutCause (i : Instr) (s : State) : Output → Prop
  | .quiet => True
  | .nak => i.rxOperand = some Config.nak ∧ s.st = .idle
  | .frame _ => i.rxOperand = some Config.terminator ∧ s.st = .expectTerminator
  | .fault _ => s.st ≠ .faulted
  | .txFrame _ => ∃ cmd data, i = .build cmd data ∧ data.length ≤ 219
  | .cksum _ => ∃ lb sq cmd data, i = .cksumCompute lb sq cmd data ∧ data.length ≤ 219
  | .bcc _ => ∃ c0 c1 c2 c3, i = .cksumDecode c0 c1 c2 c3 ∧
      ∀ c ∈ [c0, c1, c2, c3], 0x30 ≤ c.toNat ∧ c.toNat ≤ 0x3F
  | .status _ => ∃ s0 s1 s2 s3 s4 s5, i = .statusDecode s0 s1 s2 s3 s4 s5
  | .err e => i.ErrCause e

section
variable {i : Instr} {b : Byte} {s t : State}

theorem outCause_of_rxByRule (hb : i.rxOperand = some b) (h : rxByRule b s = .next t) : OutCause i s t.out := by
  rcases rxByRule_cases h with ⟨hst, rfl, rfl⟩ | ⟨-, -, rfl⟩ | ⟨-, -, rfl⟩ | ⟨-, -, rfl⟩ | ⟨-, rfl⟩ | ⟨-, rfl⟩ |
    ⟨-, -, rfl⟩ | ⟨-, -, rfl⟩ | ⟨-, -, rfl⟩ | ⟨-, -, rfl⟩ | ⟨-, -, rfl⟩ | ⟨hst, rfl, -, rfl⟩ | ⟨-, rfl⟩ |
    ⟨hst, kind, -, rfl⟩
  on_goal 14 => exact hst
  on_goal 12 => exact ⟨hb, hst⟩
  on_goal 1 => exact ⟨hb, hst⟩
  all_goals exact trivial

theorem cksumDecodeOut_of_forall_isDigit {c0 c1 c2 c3 : Byte} (h : ∀ c ∈ [c0, c1, c2, c3], isDigit c = true) :
    ∃ v : BitVec 16, v.toNat = dec4 c0 c1 c2 c3 ∧ cksumDecodeOut c0 c1 c2 c3 = .bcc v := by
  simp only [List.forall_mem_cons] at h
  obtain ⟨h0, h1, h2, h3, -⟩ := h
  exact cksumDecodeOut_of_isDigit h0 h1 h2 h3

theorem outCause_of_encoderSide (henc : i.encoderSide = true) (h : exec i s = .next t) : OutCause i s t.out := by
  cases i <;> simp only [Instr.encoderSide, Bool.false_eq_true] at henc
  case nop =>
    cases h
    exact trivial
  case build cmd data =>
    cases (exec_build s).symm.trans h
    rcases Nat.lt_or_ge 219 data.length with hlong | hlen
    · rw [buildOut_of_lt hlong]
      exact ⟨_, _, rfl, hlong⟩
    · rw [buildOut_of_le hlen]
      exact ⟨_, _, rfl, hlen⟩
  case cksumCompute lb sq cmd data =>
    cases (exec_cksumCompute s).symm.trans h
    rcases Nat.lt_or_ge 219 data.length with hlong | hlen
    · rw [cksumComputeOut_of_lt hlong]
      exact ⟨_, _, _, _, rfl, hlong⟩
    · rw [cksumComputeOut_of_le hlen]
      exact ⟨_, _, _, _, rfl, hlen⟩
  case cksumDecode c0 c1 c2 c3 =>
    cases (exec_cksumDecode s).symm.trans h
    by_cases hbad : ∃ c ∈ [c0, c1, c2, c3], isDigit c = false
    · rw [cksumDecodeOut_of_not_isDigit hbad]
      simp only [isDigit_eq_false_iff] at hbad
      exact ⟨_, _, _, _, rfl, hbad⟩
    · simp only [not_exists, not_and, Bool.not_eq_false] at hbad
      obtain ⟨v, -, hv⟩ := cksumDecodeOut_of_forall_isDigit hbad
      rw [hv]
      exact ⟨_, _, _, _, rfl, fun c hc => (isDigit_iff c).1 (hbad c hc)⟩
  case statusDecode =>
    cases h
    exact ⟨_, _, _, _, _, _, rfl⟩
  case reservedOp =>
    cases h
    rfl

/-- Every output of every transaction has its cause. -/
theorem outCause_of_exec (h : exec i s = .next t) : OutCause i s t.out := by
  cases hb : i.rxOperand
  case some b => exact outCause_of_rxByRule hb ((exec_of_rxOperand hb s).symm.trans h)
  case none =>
    rcases instr_sides i with rfl | rfl | henc | ⟨hdec, hclear⟩
    · cases h
      exact trivial
    · cases h
      exact trivial
    · exact outCause_of_encoderSide henc h
    · cases i <;> simp [Instr.decoderSide, Instr.rxOperand] at hdec hclear hb

theorem outCause_of_out_eq {o : Output} (h : exec i s = .next t) (hout : t.out = o) : OutCause i s o :=
  hout ▸ outCause_of_exec h

/-! Each event and result stands for its cause: one direction is `outCause_of_exec`, the other runs the cause. -/

theorem evNak_iff_cause (h : exec i s = .next t) :
    t.evNak = true ↔ i.rxOperand = some Config.nak ∧ s.st = .idle := by
  rw [State.evNak_iff]
  refine ⟨outCause_of_out_eq h, fun ⟨hb, hst⟩ => ?_⟩
  cases ((exec_of_rxOperand hb s).trans (rxByRule_idle_nak hst)).symm.trans h
  rfl

theorem evFrame_iff_cause (h : exec i s = .next t) :
    t.evFrame = true ↔ i.rxOperand = some Config.terminator ∧ s.st = .expectTerminator := by
  rw [State.evFrame_iff]
  refine ⟨fun ⟨r, hout⟩ => outCause_of_out_eq h hout, fun ⟨hb, hst⟩ => ?_⟩
  rw [exec_of_rxOperand hb] at h
  rcases Nat.lt_or_ge 212 s.nlen.toNat with hn | hn
  · cases (rxByRule_terminator_missing hst hn).symm.trans h
  · cases (rxByRule_terminator_ok hst hn).symm.trans h
    exact ⟨_, rfl⟩

theorem evFault_iff_cause (h : exec i s = .next t) : t.evFault = true ↔ s.st ≠ .faulted ∧ t.st = .faulted := by
  rw [State.evFault_iff]
  rcases raised_or_not_of_exec h with ⟨hs, k, -, rfl⟩ | ⟨hst, hout⟩
  · exact iff_of_true ⟨k, rfl⟩ ⟨hs, rfl⟩
  · exact iff_of_false (fun ⟨k, hk⟩ => hout k hk) fun ⟨hs, ht⟩ => hs (hst ht)

theorem txValid_iff_cause (h : exec i s = .next t) :
    t.txValid = true ↔ ∃ cmd data, i = .build cmd data ∧ data.length ≤ 219 := by
  rw [State.txValid_iff]
  refine ⟨fun ⟨f, hout⟩ => outCause_of_out_eq h hout, ?_⟩
  rintro ⟨cmd, data, rfl, hlen⟩
  cases (exec_build s).symm.trans h
  exact ⟨_, buildOut_of_le hlen⟩

theorem ckOut_iff_cause (h : exec i s = .next t) :
    t.ckOut.isSome = true ↔ ∃ lb sq cmd data, i = .cksumCompute lb sq cmd data ∧ data.length ≤ 219 := by
  rw [State.ckOut_isSome_iff]
  refine ⟨fun ⟨c, hout⟩ => outCause_of_out_eq h hout, ?_⟩
  rintro ⟨lb, sq, cmd, data, rfl, hlen⟩
  cases (exec_cksumCompute s).symm.trans h
  exact ⟨_, cksumComputeOut_of_le hlen⟩

theorem bccOut_iff_cause (h : exec i s = .next t) :
    t.bccOut.isSome = true ↔ ∃ c0 c1 c2 c3, i = .cksumDecode c0 c1 c2 c3 ∧
      ∀ c ∈ [c0, c1, c2, c3], 0x30 ≤ c.toNat ∧ c.toNat ≤ 0x3F := by
  rw [State.bccOut_isSome_iff]
  refine ⟨fun ⟨v, hout⟩ => outCause_of_out_eq h hout, ?_⟩
  rintro ⟨c0, c1, c2, c3, rfl, hdigits⟩
  cases (exec_cksumDecode s).symm.trans h
  obtain ⟨v, -, hv⟩ := cksumDecodeOut_of_forall_isDigit fun c hc => (isDigit_iff c).2 (hdigits c hc)
  exact ⟨v, hv⟩

theorem sdOut_iff_cause (h : exec i s = .next t) :
    t.sdOut.isSome = true ↔ ∃ s0 s1 s2 s3 s4 s5, i = .statusDecode s0 s1 s2 s3 s4 s5 := by
  rw [State.sdOut_isSome_iff]
  refine ⟨fun ⟨r, hout⟩ => outCause_of_out_eq h hout, ?_⟩
  rintro ⟨s0, s1, s2, s3, s4, s5, rfl⟩
  cases h
  exact ⟨_, rfl⟩

end

/-- Settles O14: one lemma per event and result. -/
theorem eventsComeFromTheirTransaction : Obligations.EventsComeFromTheirTransaction := fun _ _ _ h =>
  ⟨evNak_iff_cause h, evFrame_iff_cause h, evFault_iff_cause h, txValid_iff_cause h, ckOut_iff_cause h,
    bccOut_iff_cause h, sdOut_iff_cause h⟩

end Sys2Proof.Machine
end

section
/-! The invariant of the block (10_state.md R22, R30, R35, 42_decoder.md R155 to R166): every transaction keeps each of
its parts, and from a state that meets it every transaction completes. -/

namespace Sys2Proof.Machine

open Sys2Proof

/-! ### The parts of the invariant, in numbers -/

/-- `NLEN` is `L - 43`, and `DCNT`, `SCNT` and `CCNT` are `d`, `n` and `c`. -/
def State.HasCounts (s : State) (d n c : Nat) : Prop :=
  s.nlen.toNat + 43 = s.len.toNat ∧ s.dcnt.toNat = d ∧ s.scnt.toNat = n ∧ s.ccnt.toNat = c

/-- `frameLegal` in numbers: what `NLEN` and the counts are when the decoder state is `d`. -/
def State.CountsIn (s : State) (d : DecState) : Prop :=
  match d with
  | .idle | .readingLength | .faulted | .reserved _ => True
  | .readingSequence | .readingCommand => s.HasCounts 0 0 0
  | .readingData => ∃ d < s.nlen.toNat, s.HasCounts d 0 0
  | .expectDelimiter => s.HasCounts s.nlen.toNat 0 0
  | .readingStatus => ∃ n < 6, s.HasCounts s.nlen.toNat n 0
  | .expectPostamble => s.HasCounts s.nlen.toNat 6 0
  | .readingChecksum => ∃ c < 4, s.HasCounts s.nlen.toNat 6 c
  | .expectTerminator => s.HasCounts s.nlen.toNat 6 4

/-- `countsLegal` in numbers. -/
def State.CountBounds (s : State) : Prop :=
  s.dcnt.toNat ≤ s.nlen.toNat ∧ s.dcnt.toNat ≤ 212 ∧ s.scnt.toNat ≤ 6 ∧ s.ccnt.toNat ≤ 4

section
variable {s : State}

theorem State.frameLegal_iff : s.frameLegal = true ↔ s.CountsIn s.st := by
  unfold State.frameLegal State.CountsIn
  cases s.st <;> simp [State.lengthKnown, State.HasCounts, ← BitVec.toNat_inj] <;> omega

theorem State.countsLegal_iff : s.countsLegal = true ↔ s.CountBounds := by
  simp [State.countsLegal, State.CountBounds, and_assoc]

theorem State.seqLegal_iff : s.seqLegal = true ↔ 34 ≤ s.seqctr.toNat ∧ s.seqctr.toNat ≤ 127 := by
  simp [State.seqLegal]

theorem State.latchLegal_iff : s.latchLegal = true ↔ (s.faultKind ≠ .none ↔ s.st = .faulted) := by
  rw [State.latchLegal, beq_iff_eq, Bool.eq_iff_iff, bne_iff_ne, beq_iff_eq]

theorem State.stLegal_iff : s.stLegal = true ↔ ∀ k, s.st ≠ .reserved k := by
  unfold State.stLegal
  cases s.st <;> simp

theorem State.inv_iff : s.inv = true ↔ s.seqLegal = true ∧ s.latchLegal = true ∧ s.stLegal = true ∧
    s.countsLegal = true ∧ s.frameLegal = true := by
  simp [State.inv, and_assoc]

end

/-! ### Received bytes -/

section
variable {b : Byte} {s t : State}

theorem seqctr_of_rxByRule (h : rxByRule b s = .next t) : t.seqctr = s.seqctr :=
  (rxByRule_ignoresSeqctr b).seqctr_eq h

/-- A FramingFault sets the latch and enters FAULTED; no other byte touches either (R30, R241). -/
theorem latchLegal_of_rxByRule (hs : s.latchLegal = true) (h : rxByRule b s = .next t) : t.latchLegal = true := by
  rw [State.latchLegal_iff] at hs ⊢
  rcases rxByRule_cases h with ⟨hst, -, rfl⟩ | ⟨hst, -, rfl⟩ | ⟨hst, -, rfl⟩ | ⟨hst, -, rfl⟩ | ⟨hst, rfl⟩ | ⟨hst, rfl⟩ |
    ⟨hst, -, rfl⟩ | ⟨hst, -, rfl⟩ | ⟨hst, -, rfl⟩ | ⟨hst, -, rfl⟩ | ⟨hst, -, rfl⟩ | ⟨hst, -, -, rfl⟩ | ⟨hst, rfl⟩ |
    ⟨-, kind, hkind, rfl⟩
  on_goal 14 => exact iff_of_true hkind rfl
  all_goals simpa [hst, ite_eq_iff] using hs

/-- Each count goes up where its bound leaves room, or back to 0 with the length byte. -/
theorem countBounds_of_rxByRule (hframe : s.CountsIn s.st) (hs : s.CountBounds) (h : rxByRule b s = .next t) :
    t.CountBounds := by
  obtain ⟨hdn, hd, hn, hc⟩ := hs
  rcases rxByRule_cases h with ⟨-, -, rfl⟩ | ⟨-, -, rfl⟩ | ⟨-, -, rfl⟩ | ⟨-, -, rfl⟩ | ⟨-, rfl⟩ | ⟨-, rfl⟩ |
    ⟨hst, hroom, rfl⟩ | ⟨-, -, rfl⟩ | ⟨-, hroom, rfl⟩ | ⟨-, -, rfl⟩ | ⟨-, hroom, rfl⟩ | ⟨-, -, -, rfl⟩ | ⟨-, rfl⟩ |
    ⟨-, kind, -, rfl⟩
  on_goal 11 => exact ⟨hdn, hd, hn, (BitVec.toNat_add_of_lt (by simp; omega)).trans_le hroom⟩
  on_goal 9 => exact ⟨hdn, hd, (BitVec.toNat_add_of_lt (by simp; omega)).trans_le hroom, hc⟩
  on_goal 7 =>
    rw [hst] at hframe
    obtain ⟨d, hlt, -, rfl, -⟩ := hframe
    have hadd : (s.dcnt + 1).toNat = s.dcnt.toNat + 1 := BitVec.toNat_add_of_lt (by simp; omega)
    exact ⟨hadd.trans_le hlt, hadd.trans_le hroom, hn, hc⟩
  on_goal 4 => exact ⟨Nat.zero_le _, Nat.zero_le _, Nat.zero_le _, Nat.zero_le _⟩
  all_goals exact ⟨hdn, hd, hn, hc⟩

/-- The counts in the state that each byte of a frame leads to: the byte's own count is one more, a finished one stands at
its length, and those of the later fields are 0. -/
theorem countsIn_of_rxByRule (hs : s.CountsIn s.st) (h : rxByRule b s = .next t) : t.CountsIn t.st := by
  rcases rxByRule_cases h with ⟨hst, -, rfl⟩ | ⟨hst, -, rfl⟩ | ⟨-, -, rfl⟩ | ⟨-, hb, rfl⟩ | ⟨hst, rfl⟩ | ⟨hst, rfl⟩ |
    ⟨hst, hroom, rfl⟩ | ⟨hst, -, rfl⟩ | ⟨hst, hroom, rfl⟩ | ⟨hst, -, rfl⟩ | ⟨hst, hroom, rfl⟩ | ⟨-, -, -, rfl⟩ |
    ⟨hst, rfl⟩ | ⟨-, kind, -, rfl⟩
  · exact hs
  · exact hs
  · trivial
  · have hnlen : (BitVec.ofNat 8 (b.toNat - 43)).toNat + 43 = b.toNat := by rw [BitVec.toNat_ofNat]; omega
    exact ⟨hnlen, rfl, rfl, rfl⟩
  · rw [hst] at hs
    exact hs
  · rw [hst] at hs
    obtain ⟨hnlen, hdcnt, hscnt, hccnt⟩ := hs
    by_cases hn : s.nlen = 0
    · rw [if_pos hn]
      exact ⟨hnlen, hdcnt.trans (congrArg BitVec.toNat hn).symm, hscnt, hccnt⟩
    · rw [if_neg hn]
      exact ⟨0, Nat.pos_of_ne_zero fun h0 => hn (BitVec.eq_of_toNat_eq h0), hnlen, hdcnt, hscnt, hccnt⟩
  · rw [hst] at hs
    obtain ⟨d, hlt, hnlen, rfl, hscnt, hccnt⟩ := hs
    have hadd : (s.dcnt + 1).toNat = s.dcnt.toNat + 1 := BitVec.toNat_add_of_lt (by simp; omega)
    by_cases hlast : s.dcnt.toNat + 1 = s.nlen.toNat
    · rw [if_pos hlast]
      exact ⟨hnlen, hadd.trans hlast, hscnt, hccnt⟩
    · rw [if_neg hlast]
      exact ⟨s.dcnt.toNat + 1, Nat.lt_of_le_of_ne hlt hlast, hnlen, hadd, hscnt, hccnt⟩
  · rw [hst] at hs
    exact ⟨0, by decide, hs⟩
  · rw [hst] at hs
    obtain ⟨n, hlt, hnlen, hdcnt, rfl, hccnt⟩ := hs
    have hadd : (s.scnt + 1).toNat = s.scnt.toNat + 1 := BitVec.toNat_add_of_lt (by simp; omega)
    by_cases hlast : s.scnt.toNat + 1 = 6
    · rw [if_pos hlast]
      exact ⟨hnlen, hdcnt, hadd.trans hlast, hccnt⟩
    · rw [if_neg hlast]
      exact ⟨s.scnt.toNat + 1, Nat.lt_of_le_of_ne hlt hlast, hnlen, hdcnt, hadd, hccnt⟩
  · rw [hst] at hs
    exact ⟨0, by decide, hs⟩
  · rw [hst] at hs
    obtain ⟨c, hlt, hnlen, hdcnt, hscnt, rfl⟩ := hs
    have hadd : (s.ccnt + 1).toNat = s.ccnt.toNat + 1 := BitVec.toNat_add_of_lt (by simp; omega)
    by_cases hlast : s.ccnt.toNat + 1 = 4
    · rw [if_pos hlast]
      exact ⟨hnlen, hdcnt, hscnt, hadd.trans hlast⟩
    · rw [if_neg hlast]
      exact ⟨s.ccnt.toNat + 1, Nat.lt_of_le_of_ne hlt hlast, hnlen, hdcnt, hscnt, hadd⟩
  · trivial
  · exact hs
  · trivial

/-- A received byte keeps the invariant, part by part. -/
theorem inv_of_rxByRule (hs : s.inv = true) (h : rxByRule b s = .next t) : t.inv = true := by
  rw [State.inv_iff] at hs ⊢
  obtain ⟨hseq, hlatch, -, hcounts, hframe⟩ := hs
  rw [State.frameLegal_iff] at hframe
  rw [State.countsLegal_iff] at hcounts
  refine ⟨?seq, latchLegal_of_rxByRule hlatch h, State.stLegal_iff.2 (st_ne_reserved_of_rxByRule h),
    State.countsLegal_iff.2 (countBounds_of_rxByRule hframe hcounts h),
    State.frameLegal_iff.2 (countsIn_of_rxByRule hframe h)⟩
  case seq =>
    rw [State.seqLegal_iff] at hseq ⊢
    rwa [seqctr_of_rxByRule h]

/-- In a frame the counts stand below the lengths of their buffers, since `NLEN = L - 43` is at most 212. -/
theorem State.entryExists_of_inv (hs : s.inv = true) : s.EntryExists := by
  have hframe := State.frameLegal_iff.1 (State.frameLegal_of_inv hs)
  have hlen := s.len.isLt
  refine ⟨fun hst => ?_, fun hst => ?_, fun hst => ?_, fun hst => ?_⟩ <;> rw [hst] at hframe
  · obtain ⟨d, hlt, hnlen, hdcnt, -⟩ := hframe
    omega
  · obtain ⟨n, hlt, -, -, hscnt, -⟩ := hframe
    exact hscnt.trans_lt hlt
  · obtain ⟨c, hlt, -, -, -, hccnt⟩ := hframe
    exact hccnt.trans_lt hlt
  · obtain ⟨hnlen, -⟩ := hframe
    omega

end

/-! ### Every transaction -/

/-- With a legal `SEQCTR` and the decoder as it is, the invariant stays: it reads no output and no queue. -/
theorem State.inv_of_seqctr {s : State} (hs : s.inv = true) {v : Byte} (hv : 34 ≤ v.toNat ∧ v.toNat ≤ 127)
    (o : Output) : { s with seqctr := v, out := o }.inv = true := by
  rw [State.inv_iff] at hs ⊢
  obtain ⟨-, hrest⟩ := hs
  exact ⟨State.seqLegal_iff.2 hv, hrest⟩

/-- The cleared decoder meets the invariant, whatever `NLEN` is: there is no fault, and no count bounds anything (R280,
R281). -/
theorem State.inv_of_cleared {s : State} (hseq : s.seqLegal = true) (hst : s.st = .idle) (hkind : s.faultKind = .none)
    (hdcnt : s.dcnt = 0) (hscnt : s.scnt = 0) (hccnt : s.ccnt = 0) : s.inv = true := by
  rw [State.inv_iff]
  refine ⟨hseq, ?_, ?_, ?_, ?_⟩
  · simp [State.latchLegal, hst, hkind]
  · simp [State.stLegal, hst]
  · simp [State.countsLegal, hdcnt, hscnt, hccnt]
  · simp [State.frameLegal, hst]

section
variable {i : Instr} {s t : State}

/-- Only an accepted BUILD of the encoder side writes `SEQCTR`, and `NextSeq` stays in its range (R22, R132). -/
theorem inv_of_encoderSide (henc : i.encoderSide = true) (hs : s.inv = true) (h : exec i s = .next t) :
    t.inv = true := by
  have hseq : 34 ≤ s.seqctr.toNat ∧ s.seqctr.toNat ≤ 127 := State.seqLegal_iff.1 (State.inv_iff.1 hs).1
  by_cases hb : ∃ cmd data, i = .build cmd data
  · obtain ⟨cmd, data, rfl⟩ := hb
    cases (exec_build s).symm.trans h
    refine State.inv_of_seqctr hs ?_ _
    rcases Nat.lt_or_ge 219 data.length with hlong | hlen
    · rwa [buildSeq_of_lt hlong]
    · rw [buildSeq_of_le hlen]
      exact nextSeq_range hseq
  · obtain ⟨o, ho⟩ := exec_encoderSide_of_ne_build henc fun cmd data hi => hb ⟨cmd, data, hi⟩
    cases (ho s).symm.trans h
    exact State.inv_of_seqctr hs hseq o

theorem inv_of_exec (hs : s.inv = true) (h : exec i s = .next t) : t.inv = true := by
  rcases instr_sides i with rfl | rfl | henc | ⟨hdec, hclear⟩
  · cases (exec_reset s).symm.trans h
    exact State.inv_of_cleared rfl rfl rfl rfl rfl rfl
  · cases (exec_decClear s).symm.trans h
    exact State.inv_of_cleared (State.inv_iff.1 hs).1 rfl rfl rfl rfl rfl
  · exact inv_of_encoderSide henc hs h
  · obtain ⟨b, hrule⟩ := exec_decoderSide hdec hclear
    exact inv_of_rxByRule hs ((hrule s).symm.trans h)

theorem exec_completes (hs : s.inv = true) (i : Instr) : ∃ t, exec i s = .next t := by
  rcases instr_sides i with rfl | rfl | henc | ⟨hdec, hclear⟩
  · exact ⟨_, exec_reset s⟩
  · exact ⟨_, exec_decClear s⟩
  · obtain ⟨v, o, -, hexec⟩ := exec_encoderSide henc s
    exact ⟨_, hexec s rfl⟩
  · obtain ⟨b, hrule⟩ := exec_decoderSide hdec hclear
    obtain ⟨-, -, hst, -, -⟩ := State.inv_iff.1 hs
    obtain ⟨t, ht⟩ := rxByRule_completes hst (State.entryExists_of_inv hs) b
    exact ⟨t, (hrule s).trans ht⟩

end

/-- Taking the next ports from the host's queue leaves the invariant alone. -/
theorem State.inv_fetch (s : State) : s.fetch.2.inv = s.inv := by
  cases h : s.inputs with
  | nil => rw [fetch_nil h]
  | cons p rest =>
    rw [fetch_cons h]
    rfl

/-- Settles O47: every transaction keeps the invariant, whichever one the ports select. -/
theorem stepKeepsInvariant : Obligations.StepKeepsInvariant := fun s _ hs h =>
  inv_of_exec (s.inv_fetch.trans hs) h

/-- Settles O48: power-on has the decoder cleared and `SEQCTR` at 0x22. -/
theorem powerOnMeetsInvariant : Obligations.PowerOnMeetsInvariant :=
  State.inv_of_cleared rfl rfl rfl rfl rfl rfl

/-- Settles O49: every transaction completes, whichever one the ports select. -/
theorem stepNeverStops : Obligations.StepNeverStops := fun s hs =>
  exec_completes (s.inv_fetch.trans hs) _

end Sys2Proof.Machine
end

section
/-! The two sides of the block (20_memory.md R61), a step over the host's queue (30_encoding.md R90, R249), the script
line RX_FRAME (R96), and clearing twice (20_memory.md R57). -/

namespace Sys2Proof.Machine

open Sys2Proof

/-! ### The two sides -/

/-- RX_BYTE does not read the output ports: it writes them in every rule. -/
theorem rxByRule_with_out (b : Byte) (s : State) (o : Output) : rxByRule b { s with out := o } = rxByRule b s := by
  rcases s with ⟨q, st, len, nlen, seq, cmd, data, dcnt, status, scnt, ck, ccnt, fk, out, inputs, free⟩
  cases st <;> rfl

theorem exec_decoderSide_with_out {j : Instr} (h : j.decoderSide = true) (s : State) (o : Output) :
    exec j { s with out := o } = exec j s := by
  by_cases hclear : j = .decClear
  · subst hclear
    rfl
  · obtain ⟨b, hrule⟩ := exec_decoderSide h hclear
    rw [hrule, hrule, rxByRule_with_out]

/-- The decoder side neither reads nor writes `SEQCTR`. -/
theorem exec_decoderSide_ignoresSeqctr {j : Instr} (h : j.decoderSide = true) : IgnoresSeqctr (exec j) :=
  exec_ignoresSeqctr (fun hj => by subst hj; cases h) fun _ _ hj => by subst hj; cases h

/-- Settles O41: the encoder side writes `SEQCTR` and the output and reads `SEQCTR`, and the decoder side reads and
writes neither of them but its own output. -/
theorem sidesCommute : Obligations.SidesCommute := by
  intro i j s u v henc hdec hj hi
  have hj_seq := exec_decoderSide_ignoresSeqctr hdec
  obtain ⟨q, o, -, hexec⟩ := exec_encoderSide henc s
  cases (hexec u (hj_seq.seqctr_eq hj)).symm.trans hi
  refine ⟨{ s with seqctr := q, out := o }, { u with seqctr := q }, hexec s rfl, ?second, rfl, rfl, rfl⟩
  case second =>
    calc exec j { s with seqctr := q, out := o }
      _ = exec j { s with seqctr := q } := exec_decoderSide_with_out hdec { s with seqctr := q } o
      _ = mapNext (fun t => { t with seqctr := q }) (exec j s) := hj_seq s q
      _ = .next { u with seqctr := q } := by rw [hj]; rfl

/-! ### A step, and a script line -/

/-- Settles O5: `fetch` takes the first ports of the queue, or those of the null step; `decode` tests `rst` first. -/
theorem stepRunsOfferedTransaction : Obligations.StepRunsOfferedTransaction := by
  refine ⟨fun s p rest h => ?offered, fun s h => ?empty⟩
  case offered =>
    have hstep : step s = exec (decode p) { s with inputs := rest } := by rw [step, fetch_cons h]
    exact ⟨hstep, fun hrst => by rw [hstep, decode_of_rst hrst]⟩
  case empty => rw [step, fetch_nil h, decode_null]

/-- The bytes of a frame, with the status and checksum fields written out (R72). -/
theorem inFrame_eq (sq cmd s0 s1 s2 s3 s4 s5 c0 c1 c2 c3 : Byte) (data : List Byte) :
    inFrame sq cmd data #v[s0, s1, s2, s3, s4, s5] #v[c0, c1, c2, c3] =
      [0x01, BitVec.ofNat 8 (data.length + 43), sq, cmd] ++ data ++
        [0x04, s0, s1, s2, s3, s4, s5, 0x05, c0, c1, c2, c3, 0x03] := by
  simp [inFrame]

/-- Settles O6: RX_FRAME delivers the bytes of `inFrame`, and an absent `ck=` is four bytes 0x30. -/
theorem rxFrameExpands : Obligations.RxFrameExpands := fun sq cmd s0 s1 s2 s3 s4 s5 data _ =>
  ⟨congrArg (List.map rxPorts) (inFrame_eq sq cmd s0 s1 s2 s3 s4 s5 0x30 0x30 0x30 0x30 data),
    fun c0 c1 c2 c3 => congrArg (List.map rxPorts) (inFrame_eq sq cmd s0 s1 s2 s3 s4 s5 c0 c1 c2 c3 data)⟩

/-! ### Clearing -/

/-- The registers that RESET gives a value, and the output, are the same after every RESET (R280). -/
theorem registers_of_exec_reset {s t : State} (h : exec .reset s = .next t) :
    t.seqctr = 0x22 ∧ t.st = .idle ∧ t.faultKind = .none ∧ t.dcnt = 0 ∧ t.scnt = 0 ∧ t.ccnt = 0 ∧ t.out = .quiet := by
  cases (exec_reset s).symm.trans h
  exact ⟨rfl, rfl, rfl, rfl, rfl, rfl, rfl⟩

/-- Settles O8: power-on holds the values of `registers_of_exec_reset`. -/
theorem powerOnIsResetState : Obligations.PowerOnIsResetState := by
  refine ⟨rfl, rfl, rfl, rfl, rfl, rfl, rfl, rfl, fun s t h => ?_⟩
  obtain ⟨hseqctr, hst, hkind, hdcnt, hscnt, hccnt, -⟩ := registers_of_exec_reset h
  exact ⟨hseqctr, hst, hkind, hdcnt, hscnt, hccnt⟩

/-- Settles O10: DEC_CLEAR writes constants alone, and two RESETs agree on the registers that they give a value. -/
theorem clearingIsIdempotent : Obligations.ClearingIsIdempotent := by
  refine ⟨fun s t h => ?decClear, fun s t h => ⟨_, exec_reset t, ?reset⟩⟩
  case decClear =>
    cases (exec_decClear s).symm.trans h
    rfl
  case reset =>
    obtain ⟨hseqctr, hst, hkind, hdcnt, hscnt, hccnt, hout⟩ := registers_of_exec_reset h
    exact ⟨hseqctr.symm, hst.symm, hkind.symm, hdcnt.symm, hscnt.symm, hccnt.symm, hout.symm⟩

end Sys2Proof.Machine
end
